-- ==== Sys2Proof/Word.lean ====
section
/-! DEFINITION. The word types of the control links and the saturating count.
Everything the manual treats as a quantity is a `Nat` or an `Int`; only octets on a link are bits. -/

namespace Sys2Proof

/-- One octet of a link frame (R163). -/
abbrev Octet := BitVec 8

/-- The 16-bit check of a link frame (R163). -/
abbrev CheckWord := BitVec 16

end Sys2Proof
end

