-- ==== Sys2Proof/Config.lean ====
section
/-! DEFINITION. The values the spec leaves open, as constants with no body. -/

namespace Sys2Proof

/-- FREE VALUE (log entry 5). When one tick of the seconds timebase both completes an error window (R38)
and brings the stale timer to its timeout (R40), the spec gives no order for the two. `true` takes the
window end first. The argument is the seconds timebase at the tick. -/
opaque Config.windowEndFirst : Nat → Bool

end Sys2Proof
end

