-- ==== Sys2Proof/Syntax.lean ====
section
/-! DEFINITION. The commands of the chart generator: one constructor of `Instr` per row of
spec/opcode_table.json, and `Request`, the requests a link frame can carry. -/

namespace Sys2Proof

/-- The three link ports (R163): Ingest, Desk, Playout. -/
inductive Port where
  | ip
  | dp
  | pp
deriving DecidableEq, Repr

/-- A link frame without its start octet (R163). The length field is not stored: it is the number of
octets from the kind through the payload. -/
structure LinkFrame where
  kind : Octet
  tag : Octet
  payload : List Octet
  check : CheckWord
deriving DecidableEq, Repr

/-- A wind, `u` eastward and `v` northward, in tenths of a knot (R6). -/
structure Wind where
  u : Int
  v : Int
deriving DecidableEq, Repr

/-- A cell's optional wind and optional tide height: a value of CELL_BLOCK (R26) and an entry of a
slot's cell array (R6). -/
structure CellValue where
  wind : Option Wind
  tide : Option Int
deriving DecidableEq, Repr

/-- A vertex of COAST_LINE, in sixteenths of a cell (R48). -/
structure Vertex where
  x : Int
  y : Int
deriving DecidableEq, Repr

/-- An entry of the Area Map: an area number and a land flag (R51, R53). -/
structure MapEntry where
  area : Nat
  land : Bool
deriving DecidableEq, Repr

/-- The optional fields of FEED_SETTINGS (R42); `window` is the window code. -/
structure FeedFields where
  window : Option Nat
  target : Option (Nat × Nat)
  coverage : Option Nat
  staleTimeout : Option Nat
deriving DecidableEq, Repr

/-- The optional fields of BANDS_WRITE (R88); `mode` is the gale notice mode code. -/
structure BandFields where
  force : Option (List Nat)
  tide : Option (List Int)
  forceHyst : Option Nat
  tideHyst : Option Nat
  slack : Option Nat
  galeBand : Option Nat
  mode : Option Nat
deriving DecidableEq, Repr

/-- A layer set (R92). -/
structure LayerSet where
  coast : Bool
  wind : Bool
  tide : Bool
  trend : Bool
  areas : Bool
  summaries : Bool
  feedMark : Bool
deriving DecidableEq, Repr

/-- The fields of a page record as PAGE_WRITE carries them (R92, R93); `endCode` is the end-action code. -/
structure PageFields where
  originCol : Nat
  originRow : Nat
  width : Nat
  height : Nat
  stride : Nat
  layers : LayerSet
  first : Nat
  last : Nat
  framesPerStep : Nat
  endCode : Nat
  start : Option Nat
deriving DecidableEq, Repr

/-- The optional group settings of NOTICE_MASK (R179), each a setting code. -/
structure MaskFields where
  feed : Option Nat
  shows : Option Nat
  alert : Option Nat
  timing : Option Nat
  output : Option Nat
deriving DecidableEq, Repr

/-- The place a context stands in (R96): NEXT, LIVE, or a place of the Insert Stack counted from the
bottom. -/
inductive ContextPlace where
  | next
  | live
  | stack (i : Nat)
deriving DecidableEq, Repr

/-- A request of the request catalogue (8.6) with the fields its payload carries. COAST_LINE is two
requests by its part code, as the opcode table has it. -/
inductive Request where
  | gridDefine (columns rows : Nat)
  | stepDrop (hour : Nat)
  | stepOpen (hour fieldSet : Nat) (warnings : List Nat)
  | cellBlock (row firstCol count : Nat) (values : List CellValue)
  | stepClose
  | stepCancel
  | feedSettings (f : FeedFields)
  | feedRead
  | ingestReset
  | coastBegin
  | coastLineNew (kind : Nat) (closed : Bool) (vertices : List Vertex)
  | coastLineContinue (vertices : List Vertex)
  | coastEnd
  | areaMapBegin (columns rows : Nat)
  | areaMapRow (row firstCol count : Nat) (entries : List MapEntry)
  | bandsWrite (f : BandFields)
  | bandsRead
  | pageWrite (page : Nat) (f : PageFields)
  | pageLayers (mask : BitVec 32) (layers : LayerSet)
  | pageRead (page : Nat)
  | cue (page : Nat) (start : Option Nat)
  | cueClear
  | cueWithdraw
  | cueRead
  | insert (page : Nat)
  | insertEnd
  | hold
  | resume
  | jump (hour : Nat)
  | deskReset
  | take
  | takeForce
  | clear
  | referenceSet (rate : Nat)
  | timingRead
  | safeSet (flag : Nat) (card : Option Nat)
  | lineup (flag : Nat)
  | outputMode (mode : Nat)
  | playoutReset
  | cellRead (row firstCol count : Nat)
  | areaRead
  | statusRead
  | timelineRead
  | noticeRead
  | noticeMask (f : MaskFields)
deriving DecidableEq, Repr

/-- The commands of the block, one constructor per row of spec/opcode_table.json. A request's command is
the request taken at its port (log entry 1); a request open to every port carries the port. `t` is the
time of the event in microseconds, where the command's rules use it (log entry 6). -/
inductive Instr where
  | powerOn (t : Nat)
  | resetLineAssertion
  | resetLineRelease (t : Nat)
  | linkFrameReceived (p : Port) (f : LinkFrame) (t : Nat)
  | framingError (p : Port) (len : Nat)
  | frameGapTimeout (p : Port)
  | replySent (p : Port) (t : Nat)
  | gridDefine (columns rows : Nat)
  | stepDrop (hour : Nat)
  | stepOpen (hour fieldSet : Nat) (warnings : List Nat)
  | cellBlock (row firstCol count : Nat) (values : List CellValue)
  | stepClose
  | stepCancel
  | feedSettings (f : FeedFields)
  | feedRead
  | ingestReset
  | drainCompletion
  | windowEnd
  | staleTimerExpiry
  | coastBegin
  | coastLineNew (kind : Nat) (closed : Bool) (vertices : List Vertex)
  | coastLineContinue (vertices : List Vertex)
  | coastEnd
  | areaMapBegin (columns rows : Nat)
  | areaMapRow (row firstCol count : Nat) (entries : List MapEntry)
  | windowCutCompletion (place : ContextPlace)
  | bandsWrite (f : BandFields)
  | bandsRead
  | pageWrite (page : Nat) (f : PageFields)
  | pageLayers (mask : BitVec 32) (layers : LayerSet)
  | pageRead (page : Nat)
  | cue (page : Nat) (start : Option Nat)
  | cueClear
  | cueWithdraw
  | cueRead
  | insert (page : Nat)
  | insertEnd
  | hold
  | resume
  | jump (hour : Nat)
  | deskReset
  | take
  | takeForce
  | clear
  | referenceSet (rate t : Nat)
  | timingRead (t : Nat)
  | safeSet (flag : Nat) (card : Option Nat)
  | lineup (flag : Nat)
  | outputMode (mode t : Nat)
  | playoutReset (t : Nat)
  | cellRead (p : Port) (row firstCol count : Nat)
  | areaRead (p : Port)
  | statusRead (p : Port)
  | timelineRead (p : Port)
  | noticeRead (p : Port)
  | noticeMask (p : Port) (f : MaskFields)
  | frefPulse (t : Nat)
  | internalFrameStart
  | acquiringSilenceExpiry
  | refLost
  | holdoverEnd
  | lateFrames (t : Nat)
  | detailRecovered (t : Nat)
  | compositionCompletion
  | safeLineChange (asserted : Bool)
  | startOctet (p : Port)
deriving DecidableEq, Repr

end Sys2Proof
end

