-- ==== Sys2Proof/WellFormed.lean ====
section
/-! DEFINITION. Well-formed commands: the operands are values that R164's encodings can carry.
No meaning relies on it: every meaning is total and judges its operands by its own rule. -/

namespace Sys2Proof

/-- A number a payload carries in two octets, never negative (R164). -/
def fitsNum (n : Nat) : Bool := n < 65536

/-- A number a payload carries in two octets in two's complement (R164). -/
def fitsInt (i : Int) : Bool := -32768 ≤ i && i ≤ 32767

/-- A code carried in one octet (R164). -/
def fitsCode (n : Nat) : Bool := n < 256

/-- A list preceded by one octet holding its number of items (R164). -/
def fitsList {α : Type} (xs : List α) (item : α → Bool) : Bool := xs.length < 256 && xs.all item

def CellValue.fits (c : CellValue) : Bool :=
  (c.wind.all fun w => fitsInt w.u && fitsInt w.v) && c.tide.all fitsInt

def Vertex.fits (p : Vertex) : Bool := fitsInt p.x && fitsInt p.y

def MapEntry.fits (e : MapEntry) : Bool := fitsNum e.area

def FeedFields.fits (f : FeedFields) : Bool :=
  f.window.all fitsCode && (f.target.all fun p => fitsNum p.1 && fitsNum p.2)
    && f.coverage.all fitsNum && f.staleTimeout.all fitsNum

def BandFields.fits (f : BandFields) : Bool :=
  (f.force.all fun l => fitsList l fitsNum) && (f.tide.all fun l => fitsList l fitsInt)
    && f.forceHyst.all fitsNum && f.tideHyst.all fitsNum && f.slack.all fitsNum
    && f.galeBand.all fitsNum && f.mode.all fitsCode

def PageFields.fits (f : PageFields) : Bool :=
  fitsNum f.originCol && fitsNum f.originRow && fitsNum f.width && fitsNum f.height
    && fitsNum f.stride && fitsNum f.first && fitsNum f.last && fitsNum f.framesPerStep
    && fitsCode f.endCode && f.start.all fitsNum

def MaskFields.fits (f : MaskFields) : Bool :=
  f.feed.all fitsCode && f.shows.all fitsCode && f.alert.all fitsCode && f.timing.all fitsCode
    && f.output.all fitsCode

/-- The operands of a request are values its payload can carry (R164). -/
def Request.wellFormed : Request → Bool
  | .gridDefine c r => fitsNum c && fitsNum r
  | .stepDrop h => fitsNum h
  | .stepOpen h f ws => fitsNum h && fitsCode f && fitsList ws fitsNum
  | .cellBlock r c n vs =>
      fitsNum r && fitsNum c && fitsNum n && vs.length == n && vs.all CellValue.fits
  | .stepClose => true
  | .stepCancel => true
  | .feedSettings f => f.fits
  | .feedRead => true
  | .ingestReset => true
  | .coastBegin => true
  | .coastLineNew k _ vs => fitsCode k && fitsList vs Vertex.fits
  | .coastLineContinue vs => fitsList vs Vertex.fits
  | .coastEnd => true
  | .areaMapBegin c r => fitsNum c && fitsNum r
  | .areaMapRow r c n es =>
      fitsNum r && fitsNum c && fitsNum n && es.length == n && es.all MapEntry.fits
  | .bandsWrite f => f.fits
  | .bandsRead => true
  | .pageWrite p f => fitsNum p && f.fits
  | .pageLayers _ _ => true
  | .pageRead p => fitsNum p
  | .cue p s => fitsNum p && s.all fitsNum
  | .cueClear => true
  | .cueWithdraw => true
  | .cueRead => true
  | .insert p => fitsNum p
  | .insertEnd => true
  | .hold => true
  | .resume => true
  | .jump h => fitsNum h
  | .deskReset => true
  | .take => true
  | .takeForce => true
  | .clear => true
  | .referenceSet r => fitsCode r
  | .timingRead => true
  | .safeSet f c => fitsCode f && c.all fitsCode
  | .lineup f => fitsCode f
  | .outputMode m => fitsCode m
  | .playoutReset => true
  | .cellRead r c n => fitsNum r && fitsNum c && fitsNum n
  | .areaRead => true
  | .statusRead => true
  | .timelineRead => true
  | .noticeRead => true
  | .noticeMask f => f.fits

/-- The request that a request's command stands for; none for an event that is no request. -/
def Instr.request? : Instr → Option Request
  | .powerOn _ => none
  | .resetLineAssertion => none
  | .resetLineRelease _ => none
  | .linkFrameReceived _ _ _ => none
  | .framingError _ _ => none
  | .frameGapTimeout _ => none
  | .replySent _ _ => none
  | .gridDefine c r => some (.gridDefine c r)
  | .stepDrop h => some (.stepDrop h)
  | .stepOpen h f ws => some (.stepOpen h f ws)
  | .cellBlock r c n vs => some (.cellBlock r c n vs)
  | .stepClose => some .stepClose
  | .stepCancel => some .stepCancel
  | .feedSettings f => some (.feedSettings f)
  | .feedRead => some .feedRead
  | .ingestReset => some .ingestReset
  | .drainCompletion => none
  | .windowEnd => none
  | .staleTimerExpiry => none
  | .coastBegin => some .coastBegin
  | .coastLineNew k c vs => some (.coastLineNew k c vs)
  | .coastLineContinue vs => some (.coastLineContinue vs)
  | .coastEnd => some .coastEnd
  | .areaMapBegin c r => some (.areaMapBegin c r)
  | .areaMapRow r c n es => some (.areaMapRow r c n es)
  | .windowCutCompletion _ => none
  | .bandsWrite f => some (.bandsWrite f)
  | .bandsRead => some .bandsRead
  | .pageWrite p f => some (.pageWrite p f)
  | .pageLayers m l => some (.pageLayers m l)
  | .pageRead p => some (.pageRead p)
  | .cue p s => some (.cue p s)
  | .cueClear => some .cueClear
  | .cueWithdraw => some .cueWithdraw
  | .cueRead => some .cueRead
  | .insert p => some (.insert p)
  | .insertEnd => some .insertEnd
  | .hold => some .hold
  | .resume => some .resume
  | .jump h => some (.jump h)
  | .deskReset => some .deskReset
  | .take => some .take
  | .takeForce => some .takeForce
  | .clear => some .clear
  | .referenceSet r _ => some (.referenceSet r)
  | .timingRead _ => some .timingRead
  | .safeSet f c => some (.safeSet f c)
  | .lineup f => some (.lineup f)
  | .outputMode m _ => some (.outputMode m)
  | .playoutReset _ => some .playoutReset
  | .cellRead _ r c n => some (.cellRead r c n)
  | .areaRead _ => some .areaRead
  | .statusRead _ => some .statusRead
  | .timelineRead _ => some .timelineRead
  | .noticeRead _ => some .noticeRead
  | .noticeMask _ f => some (.noticeMask f)
  | .frefPulse _ => none
  | .internalFrameStart => none
  | .acquiringSilenceExpiry => none
  | .refLost => none
  | .holdoverEnd => none
  | .lateFrames _ => none
  | .detailRecovered _ => none
  | .compositionCompletion => none
  | .safeLineChange _ => none
  | .startOctet _ => none

/-- A command is well formed when its operands fit their carriers: a request by R164, a frame's payload
by R163 (at most 1018 octets), a length field in two octets, a place of the Insert Stack 0 or 1 (R112). -/
def Instr.wellFormed (i : Instr) : Bool :=
  match i with
  | .linkFrameReceived _ f _ => f.payload.length ≤ 1018
  | .framingError _ len => fitsNum len
  | .windowCutCompletion (.stack k) => k < 2
  | i => i.request?.all Request.wellFormed

end Sys2Proof
end

