-- ==== Sys2Proof/Decode.lean ====
section
/-! DEFINITION. The payload encodings of R164: decoding a request from the octets of a link frame, the
encoder of the same fields, and the request catalogue of 8.6. `decodeTableWord` answers nothing, since
no row of the opcode table has bits. -/

namespace Sys2Proof

/-- No row of spec/opcode_table.json gives bits, so no word spells a command. -/
def decodeTableWord (_nbits _w : Nat) : Option Instr := none

/-! ### Fields of a payload (R164) -/

/-- A number in two octets, high octet first. -/
def numOctets (n : Nat) : List Octet := [BitVec.ofNat 8 (n / 256), BitVec.ofNat 8 n]

/-- A number that may be negative, in two octets in two's complement. -/
def intOctets (i : Int) : List Octet := numOctets (i % 65536).toNat

/-- A number in four octets, high octet first. -/
def longOctets (n : Nat) : List Octet := numOctets (n / 65536) ++ numOctets n

/-- A field that may be absent: one octet 1 before its value, or one octet 0. -/
def optOctets {α : Type} (item : α → List Octet) : Option α → List Octet
  | none => [0]
  | some a => 1 :: item a

/-- A field of two values. -/
def flagOctets (b : Bool) : List Octet := [if b then 1 else 0]

/-- A code or any other one-octet field. -/
def codeOctets (n : Nat) : List Octet := [BitVec.ofNat 8 n]

/-- A list preceded by one octet holding its number of items. -/
def listOctets {α : Type} (item : α → List Octet) (xs : List α) : List Octet :=
  BitVec.ofNat 8 xs.length :: xs.flatMap item

def takeCode : List Octet → Option (Nat × List Octet)
  | a :: o => some (a.toNat, o)
  | [] => none

/-- A two-valued field holds 1 or 0; any other octet is a code out of range (log entry 21). -/
def takeFlag : List Octet → Option (Bool × List Octet)
  | a :: o => if a = 1 then some (true, o) else if a = 0 then some (false, o) else none
  | [] => none

def takeNum : List Octet → Option (Nat × List Octet)
  | a :: b :: o => some (a.toNat * 256 + b.toNat, o)
  | _ => none

def takeInt (o : List Octet) : Option (Int × List Octet) :=
  (takeNum o).map fun p => (if p.1 < 32768 then (p.1 : Int) else (p.1 : Int) - 65536, p.2)

def takeLong (o : List Octet) : Option (Nat × List Octet) := do
  let (hi, o) ← takeNum o
  let (lo, o) ← takeNum o
  some (hi * 65536 + lo, o)

def takeOpt {α : Type} (item : List Octet → Option (α × List Octet)) (o : List Octet) :
    Option (Option α × List Octet) := do
  let (present, o) ← takeFlag o
  if present then
    let (a, o) ← item o
    some (some a, o)
  else some (none, o)

/-- `n` items one after another: a list whose number of items the payload gives in a count field. -/
def takeMany {α : Type} (item : List Octet → Option (α × List Octet)) :
    Nat → List Octet → Option (List α × List Octet)
  | 0, o => some ([], o)
  | n + 1, o => do
      let (a, o) ← item o
      let (as, o) ← takeMany item n o
      some (a :: as, o)

def takeList {α : Type} (item : List Octet → Option (α × List Octet)) (o : List Octet) :
    Option (List α × List Octet) := do
  let (n, o) ← takeCode o
  takeMany item n o

def takeWind (o : List Octet) : Option (Wind × List Octet) := do
  let (u, o) ← takeInt o
  let (v, o) ← takeInt o
  some (⟨u, v⟩, o)

def takeCellValue (o : List Octet) : Option (CellValue × List Octet) := do
  let (w, o) ← takeOpt takeWind o
  let (h, o) ← takeOpt takeInt o
  some (⟨w, h⟩, o)

def takeVertex (o : List Octet) : Option (Vertex × List Octet) := do
  let (x, o) ← takeInt o
  let (y, o) ← takeInt o
  some (⟨x, y⟩, o)

def takeMapEntry (o : List Octet) : Option (MapEntry × List Octet) := do
  let (a, o) ← takeNum o
  let (l, o) ← takeFlag o
  some (⟨a, l⟩, o)

def takeTarget (o : List Octet) : Option ((Nat × Nat) × List Octet) := do
  let (m, o) ← takeNum o
  let (e, o) ← takeNum o
  some ((m, e), o)

/-- A layer set: bit i stands for the name at position i of R92's list. Bit 7 names nothing (log entry 20). -/
def takeLayers : List Octet → Option (LayerSet × List Octet)
  | a :: o =>
      some (⟨a.getLsbD 0, a.getLsbD 1, a.getLsbD 2, a.getLsbD 3, a.getLsbD 4, a.getLsbD 5, a.getLsbD 6⟩, o)
  | [] => none

def takeFeedFields (o : List Octet) : Option (FeedFields × List Octet) := do
  let (w, o) ← takeOpt takeCode o
  let (t, o) ← takeOpt takeTarget o
  let (c, o) ← takeOpt takeNum o
  let (s, o) ← takeOpt takeNum o
  some (⟨w, t, c, s⟩, o)

def takeBandFields (o : List Octet) : Option (BandFields × List Octet) := do
  let (f, o) ← takeOpt (takeList takeNum) o
  let (t, o) ← takeOpt (takeList takeInt) o
  let (h, o) ← takeOpt takeNum o
  let (ht, o) ← takeOpt takeNum o
  let (sl, o) ← takeOpt takeNum o
  let (g, o) ← takeOpt takeNum o
  let (m, o) ← takeOpt takeCode o
  some (⟨f, t, h, ht, sl, g, m⟩, o)

def takePageFields (o : List Octet) : Option (PageFields × List Octet) := do
  let (oc, o) ← takeNum o
  let (or_, o) ← takeNum o
  let (w, o) ← takeNum o
  let (h, o) ← takeNum o
  let (st, o) ← takeNum o
  let (l, o) ← takeLayers o
  let (fi, o) ← takeNum o
  let (la, o) ← takeNum o
  let (f, o) ← takeNum o
  let (e, o) ← takeCode o
  let (s, o) ← takeOpt takeNum o
  some (⟨oc, or_, w, h, st, l, fi, la, f, e, s⟩, o)

def takeMaskFields (o : List Octet) : Option (MaskFields × List Octet) := do
  let (f, o) ← takeOpt takeCode o
  let (s, o) ← takeOpt takeCode o
  let (a, o) ← takeOpt takeCode o
  let (t, o) ← takeOpt takeCode o
  let (u, o) ← takeOpt takeCode o
  some (⟨f, s, a, t, u⟩, o)

/-! ### The request catalogue (8.6) -/

/-- The kind code of a request. -/
def requestKind : Request → Nat
  | .gridDefine _ _ => 0x01
  | .stepDrop _ => 0x02
  | .stepOpen _ _ _ => 0x03
  | .cellBlock _ _ _ _ => 0x04
  | .stepClose => 0x05
  | .stepCancel => 0x06
  | .feedSettings _ => 0x07
  | .feedRead => 0x08
  | .ingestReset => 0x09
  | .coastBegin => 0x10
  | .coastLineNew _ _ _ => 0x11
  | .coastLineContinue _ => 0x11
  | .coastEnd => 0x12
  | .areaMapBegin _ _ => 0x13
  | .areaMapRow _ _ _ _ => 0x14
  | .bandsWrite _ => 0x15
  | .bandsRead => 0x16
  | .pageWrite _ _ => 0x17
  | .pageLayers _ _ => 0x18
  | .pageRead _ => 0x19
  | .cue _ _ => 0x1A
  | .cueClear => 0x1B
  | .cueWithdraw => 0x1C
  | .cueRead => 0x1D
  | .insert _ => 0x1E
  | .insertEnd => 0x1F
  | .hold => 0x20
  | .resume => 0x21
  | .jump _ => 0x22
  | .deskReset => 0x23
  | .take => 0x30
  | .takeForce => 0x31
  | .clear => 0x32
  | .referenceSet _ => 0x33
  | .timingRead => 0x34
  | .safeSet _ _ => 0x35
  | .lineup _ => 0x36
  | .outputMode _ => 0x37
  | .playoutReset => 0x38
  | .cellRead _ _ _ => 0x40
  | .areaRead => 0x41
  | .statusRead => 0x42
  | .timelineRead => 0x43
  | .noticeRead => 0x44
  | .noticeMask _ => 0x45

/-- The ports a kind code's request belongs to; none for the code of no request. -/
def kindPorts (k : Nat) : Option (List Port) :=
  if 0x01 ≤ k ∧ k ≤ 0x09 then some [.ip]
  else if 0x10 ≤ k ∧ k ≤ 0x23 then some [.dp]
  else if 0x30 ≤ k ∧ k ≤ 0x38 then some [.pp]
  else if 0x40 ≤ k ∧ k ≤ 0x45 then some [.ip, .dp, .pp]
  else none

/-- The fields of the request of a kind code, in the order its rule lists them (R163). A NEW part of COAST_LINE
carries its kind code and closed flag after the vertex list, as R48 names them (log entry 45); a part code other
than NEW (0) and CONTINUE (1) has no fields to read (log entry 21). -/
def takeRequest (k : Nat) (o : List Octet) : Option (Request × List Octet) :=
  match k with
  | 0x01 => do
      let (c, o) ← takeNum o
      let (r, o) ← takeNum o
      some (.gridDefine c r, o)
  | 0x02 => do
      let (h, o) ← takeNum o
      some (.stepDrop h, o)
  | 0x03 => do
      let (h, o) ← takeNum o
      let (f, o) ← takeCode o
      let (ws, o) ← takeList takeNum o
      some (.stepOpen h f ws, o)
  | 0x04 => do
      let (r, o) ← takeNum o
      let (c, o) ← takeNum o
      let (n, o) ← takeNum o
      let (vs, o) ← takeMany takeCellValue n o
      some (.cellBlock r c n vs, o)
  | 0x05 => some (.stepClose, o)
  | 0x06 => some (.stepCancel, o)
  | 0x07 => do
      let (f, o) ← takeFeedFields o
      some (.feedSettings f, o)
  | 0x08 => some (.feedRead, o)
  | 0x09 => some (.ingestReset, o)
  | 0x10 => some (.coastBegin, o)
  | 0x11 => do
      let (part, o) ← takeCode o
      if part = 0 then
        let (vs, o) ← takeList takeVertex o
        let (kind, o) ← takeCode o
        let (closed, o) ← takeFlag o
        some (.coastLineNew kind closed vs, o)
      else if part = 1 then
        let (vs, o) ← takeList takeVertex o
        some (.coastLineContinue vs, o)
      else none
  | 0x12 => some (.coastEnd, o)
  | 0x13 => do
      let (c, o) ← takeNum o
      let (r, o) ← takeNum o
      some (.areaMapBegin c r, o)
  | 0x14 => do
      let (r, o) ← takeNum o
      let (c, o) ← takeNum o
      let (n, o) ← takeNum o
      let (es, o) ← takeMany takeMapEntry n o
      some (.areaMapRow r c n es, o)
  | 0x15 => do
      let (f, o) ← takeBandFields o
      some (.bandsWrite f, o)
  | 0x16 => some (.bandsRead, o)
  | 0x17 => do
      let (p, o) ← takeNum o
      let (f, o) ← takePageFields o
      some (.pageWrite p f, o)
  | 0x18 => do
      let (m, o) ← takeLong o
      let (l, o) ← takeLayers o
      some (.pageLayers (BitVec.ofNat 32 m) l, o)
  | 0x19 => do
      let (p, o) ← takeNum o
      some (.pageRead p, o)
  | 0x1A => do
      let (p, o) ← takeNum o
      let (s, o) ← takeOpt takeNum o
      some (.cue p s, o)
  | 0x1B => some (.cueClear, o)
  | 0x1C => some (.cueWithdraw, o)
  | 0x1D => some (.cueRead, o)
  | 0x1E => do
      let (p, o) ← takeNum o
      some (.insert p, o)
  | 0x1F => some (.insertEnd, o)
  | 0x20 => some (.hold, o)
  | 0x21 => some (.resume, o)
  | 0x22 => do
      let (h, o) ← takeNum o
      some (.jump h, o)
  | 0x23 => some (.deskReset, o)
  | 0x30 => some (.take, o)
  | 0x31 => some (.takeForce, o)
  | 0x32 => some (.clear, o)
  | 0x33 => do
      let (r, o) ← takeCode o
      some (.referenceSet r, o)
  | 0x34 => some (.timingRead, o)
  | 0x35 => do
      let (f, o) ← takeCode o
      let (c, o) ← takeOpt takeCode o
      some (.safeSet f c, o)
  | 0x36 => do
      let (f, o) ← takeCode o
      some (.lineup f, o)
  | 0x37 => do
      let (m, o) ← takeCode o
      some (.outputMode m, o)
  | 0x38 => some (.playoutReset, o)
  | 0x40 => do
      let (r, o) ← takeNum o
      let (c, o) ← takeNum o
      let (n, o) ← takeNum o
      some (.cellRead r c n, o)
  | 0x41 => some (.areaRead, o)
  | 0x42 => some (.statusRead, o)
  | 0x43 => some (.timelineRead, o)
  | 0x44 => some (.noticeRead, o)
  | 0x45 => do
      let (f, o) ← takeMaskFields o
      some (.noticeMask f, o)
  | _ => none

/-- The request that a whole payload carries: none where the payload lacks a field or has octets beyond
them (R167). -/
def decodeRequest (k : Nat) (payload : List Octet) : Option Request :=
  match takeRequest k payload with
  | some (r, []) => some r
  | _ => none

/-! ### The encoder of the same fields -/

def windOctets (w : Wind) : List Octet := intOctets w.u ++ intOctets w.v

def cellValueOctets (c : CellValue) : List Octet := optOctets windOctets c.wind ++ optOctets intOctets c.tide

def vertexOctets (p : Vertex) : List Octet := intOctets p.x ++ intOctets p.y

def mapEntryOctets (e : MapEntry) : List Octet := numOctets e.area ++ flagOctets e.land

def targetOctets (p : Nat × Nat) : List Octet := numOctets p.1 ++ numOctets p.2

def layerOctet (l : LayerSet) : Octet :=
  BitVec.ofNat 8 (l.coast.toNat + 2 * l.wind.toNat + 4 * l.tide.toNat + 8 * l.trend.toNat
    + 16 * l.areas.toNat + 32 * l.summaries.toNat + 64 * l.feedMark.toNat)

def feedFieldsOctets (f : FeedFields) : List Octet :=
  optOctets codeOctets f.window ++ optOctets targetOctets f.target ++ optOctets numOctets f.coverage
    ++ optOctets numOctets f.staleTimeout

def bandFieldsOctets (f : BandFields) : List Octet :=
  optOctets (listOctets numOctets) f.force ++ optOctets (listOctets intOctets) f.tide
    ++ optOctets numOctets f.forceHyst ++ optOctets numOctets f.tideHyst ++ optOctets numOctets f.slack
    ++ optOctets numOctets f.galeBand ++ optOctets codeOctets f.mode

def pageFieldsOctets (f : PageFields) : List Octet :=
  numOctets f.originCol ++ numOctets f.originRow ++ numOctets f.width ++ numOctets f.height
    ++ numOctets f.stride ++ [layerOctet f.layers] ++ numOctets f.first ++ numOctets f.last
    ++ numOctets f.framesPerStep ++ codeOctets f.endCode ++ optOctets numOctets f.start

def maskFieldsOctets (f : MaskFields) : List Octet :=
  optOctets codeOctets f.feed ++ optOctets codeOctets f.shows ++ optOctets codeOctets f.alert
    ++ optOctets codeOctets f.timing ++ optOctets codeOctets f.output

/-- The payload that carries a request (R163, R164). -/
def encodeRequest : Request → List Octet
  | .gridDefine c r => numOctets c ++ numOctets r
  | .stepDrop h => numOctets h
  | .stepOpen h f ws => numOctets h ++ codeOctets f ++ listOctets numOctets ws
  | .cellBlock r c n vs => numOctets r ++ numOctets c ++ numOctets n ++ vs.flatMap cellValueOctets
  | .stepClose => []
  | .stepCancel => []
  | .feedSettings f => feedFieldsOctets f
  | .feedRead => []
  | .ingestReset => []
  | .coastBegin => []
  | .coastLineNew k c vs => codeOctets 0 ++ listOctets vertexOctets vs ++ codeOctets k ++ flagOctets c
  | .coastLineContinue vs => codeOctets 1 ++ listOctets vertexOctets vs
  | .coastEnd => []
  | .areaMapBegin c r => numOctets c ++ numOctets r
  | .areaMapRow r c n es => numOctets r ++ numOctets c ++ numOctets n ++ es.flatMap mapEntryOctets
  | .bandsWrite f => bandFieldsOctets f
  | .bandsRead => []
  | .pageWrite p f => numOctets p ++ pageFieldsOctets f
  | .pageLayers m l => longOctets m.toNat ++ [layerOctet l]
  | .pageRead p => numOctets p
  | .cue p s => numOctets p ++ optOctets numOctets s
  | .cueClear => []
  | .cueWithdraw => []
  | .cueRead => []
  | .insert p => numOctets p
  | .insertEnd => []
  | .hold => []
  | .resume => []
  | .jump h => numOctets h
  | .deskReset => []
  | .take => []
  | .takeForce => []
  | .clear => []
  | .referenceSet r => codeOctets r
  | .timingRead => []
  | .safeSet f c => codeOctets f ++ optOctets codeOctets c
  | .lineup f => codeOctets f
  | .outputMode m => codeOctets m
  | .playoutReset => []
  | .cellRead r c n => numOctets r ++ numOctets c ++ numOctets n
  | .areaRead => []
  | .statusRead => []
  | .timelineRead => []
  | .noticeRead => []
  | .noticeMask f => maskFieldsOctets f

end Sys2Proof
end

