-- ==== Sys2Proof/Machine/State.lean ====
section
/-! DEFINITION. The state of the chart generator as plain data, block by block, the reasons a step can
stop, and the state after power-on. Conditions the spec ties exactly to other state are not stored twice
(log entry 25): the coast-pending mark, the attention lines, whether safe holds, the pending flags. -/

namespace Sys2Proof.Machine

/-! ### Sparse tables -/

/-- A table addressed by cell in one canonical form: keys strictly rising, no entry equal to the value an
unlisted cell reads as (log entry 24). -/
abbrev Store (α : Type) := List (Nat × α)

/-! ### The Field Store (Chapter 1) -/

/-- The dimensions of a DEFINED grid (R1). -/
structure Grid where
  columns : Nat
  rows : Nat
deriving DecidableEq, Repr

/-- The four states of a slot (R5). -/
inductive SlotState where
  | free
  | loading
  | ready
  | retiring
deriving DecidableEq, Repr

/-- The field set of a step (R4). -/
inductive FieldSet where
  | wind
  | tide
  | both
deriving DecidableEq, Repr

/-- A slot number, 0..15 (R4). -/
abbrev SlotId := Fin 16

/-- A step slot (R4). An unlisted cell of `cells` has both parts absent. -/
structure Slot where
  state : SlotState
  hour : Option Nat
  fieldSet : Option FieldSet
  generation : Nat
  pins : Nat
  loaded : Nat
  warnings : List Nat
  cells : Store CellValue
deriving DecidableEq, Repr

/-- A reference to a slot, with the hour and generation it had when the reference was taken (R16). -/
structure SlotRef where
  slot : SlotId
  hour : Nat
  generation : Nat
deriving DecidableEq, Repr

/-- The grid definition (none while UNDEFINED), the sixteen slots and the Timeline (R1, R4, R10). -/
structure FieldStore where
  grid : Option Grid
  slots : Vector Slot 16
  timeline : List SlotId
deriving DecidableEq, Repr

/-! ### The Ingest Assembler (Chapter 2) -/

/-- The states of an open load (R23); CLEAR is the absence of the record. -/
inductive LoadPhase where
  | opened
  | closing
  | cancelling
deriving DecidableEq, Repr

/-- The open-load record while not CLEAR (R23). -/
structure OpenLoad where
  phase : LoadPhase
  slot : SlotId
  hour : Nat
  fieldSet : FieldSet
  clamps : Nat
  misplaced : Nat
deriving DecidableEq, Repr

/-- An accepted CELL_BLOCK (R28). -/
structure CellBlock where
  row : Nat
  firstCol : Nat
  count : Nat
  values : List CellValue
deriving DecidableEq, Repr

/-- An entry of the Ingest Queue (R28). -/
inductive QueueEntry where
  | block (b : CellBlock)
  | close
deriving DecidableEq, Repr

/-- How a load ended (R33). -/
inductive LoadOutcome where
  | published
  | rejected
  | cancelled
deriving DecidableEq, Repr

/-- The last-load result (R33). -/
structure LoadResult where
  outcome : LoadOutcome
  hour : Nat
  slot : SlotId
  coverage : Option Nat
  generation : Option Nat
  clamps : Nat
  misplaced : Nat
deriving DecidableEq, Repr

/-- The open-load record, the Ingest Queue (oldest first), the block in flight of a drain, and the
last-load result (R23, R28, R29, R33). -/
structure Ingest where
  load : Option OpenLoad
  queue : List QueueEntry
  inFlight : Option CellBlock
  lastLoad : Option LoadResult
deriving DecidableEq, Repr

/-- The feed state (R37). -/
inductive FeedState where
  | good
  | degraded
  | stale
deriving DecidableEq, Repr

/-- The window setting (R38, R39, R42). -/
inductive FeedWindow where
  | oneSecond
  | tenSeconds
  | sixtySeconds
  | continuous
deriving DecidableEq, Repr

/-- The Feed Monitor (R37, R40, R42): `elapsed` is the ticks since the window began. -/
structure FeedMonitor where
  state : FeedState
  window : FeedWindow
  targetM : Nat
  targetE : Nat
  coverageMin : Nat
  staleTimeout : Nat
  windowCount : Nat
  lastWindow : Nat
  continuous : Nat
  elapsed : Nat
  staleSeconds : Nat
  staleRunning : Bool
deriving DecidableEq, Repr

/-! ### The Coast and Area Store (Chapter 3) -/

/-- The state of the coast store (R45). -/
inductive CoastState where
  | empty
  | loading
  | valid
deriving DecidableEq, Repr

/-- The kind of a polyline (R46). -/
inductive LineKind where
  | coast
  | island
  | areaBoundary
deriving DecidableEq, Repr

/-- A polyline record (R46). -/
structure Polyline where
  first : Nat
  count : Nat
  kind : LineKind
  closed : Bool
deriving DecidableEq, Repr

/-- The coast store (R45). -/
structure CoastStore where
  state : CoastState
  vertices : List Vertex
  polylines : List Polyline
  marker : Option Nat
deriving DecidableEq, Repr

/-- A PRESENT Area Map (R51). An unlisted cell is sea with area 0. -/
structure AreaMap where
  columns : Nat
  rows : Nat
  cells : Store MapEntry
deriving DecidableEq, Repr

/-- The cut state of a context (R55). The coast-pending mark is set exactly while it is not DONE. -/
inductive CutState where
  | done
  | cutting
  | awaiting
deriving DecidableEq, Repr

/-- A piece of line work (R55). -/
structure Piece where
  kind : LineKind
  polyline : Nat
  start : Vertex
  finish : Vertex
deriving DecidableEq, Repr

/-- The coast part of a context (R55). -/
structure CoastPart where
  cut : CutState
  pieces : List Piece
  overflow : Nat
deriving DecidableEq, Repr

/-! ### The Show Controller (Chapter 5) -/

/-- The end action of a page (R92). -/
inductive EndAction where
  | holdLast
  | loop
  | advance
deriving DecidableEq, Repr

/-- A defined page record as stored (R92). -/
structure Page where
  originCol : Nat
  originRow : Nat
  width : Nat
  height : Nat
  stride : Nat
  layers : LayerSet
  first : Nat
  last : Nat
  framesPerStep : Nat
  endAction : EndAction
  start : Option Nat
deriving DecidableEq, Repr

/-- A page number, 0..31 (R92). -/
abbrev PageId := Fin 32

/-- A clamped window (R97). -/
structure ChartWindow where
  col : Nat
  row : Nat
  width : Nat
  height : Nat
deriving DecidableEq, Repr

/-- The origin of a context (R96). -/
inductive Origin where
  | cued
  | insert
deriving DecidableEq, Repr

/-- The preparation state of NEXT (R104). -/
inductive Prep where
  | preparing
  | ready
deriving DecidableEq, Repr

/-- A context (R96). `prep` holds a value only while the context is NEXT. -/
structure Context where
  page : PageId
  origin : Origin
  copy : Page
  startUsed : Nat
  window : ChartWindow
  coast : CoastPart
  stepA : Option SlotRef
  stepB : Option SlotRef
  phase : Nat
  ended : Bool
  prep : Option Prep
deriving DecidableEq, Repr

/-- An entry of the Cue Queue (R100). -/
structure CueEntry where
  page : PageId
  start : Option Nat
deriving DecidableEq, Repr

/-- The Page Table, the Cue Queue (oldest first), NEXT, LIVE, the Insert Stack (bottom first, none an
empty marker) and the HOLD flag (R92, R96, R100, R112, R117). -/
structure ShowController where
  pages : Vector (Option Page) 32
  queue : List CueEntry
  next : Option Context
  live : Option Context
  stack : List (Option Context)
  hold : Bool
deriving DecidableEq, Repr

/-! ### Frame Timing (Chapter 6) -/

/-- The lock state (R124). In DORMANT it is FREE_RUN and reported as STOPPED (R134, R169). -/
inductive LockState where
  | freeRun
  | acquiring
  | locked
  | holdover
deriving DecidableEq, Repr

/-- The nominal rate (R123). -/
inductive Rate where
  | r25
  | r30
  | r50
  | r60
deriving DecidableEq, Repr

/-- Frame Timing (R124). `started` says whether a frame start has been made since Frame Timing last
started (R133). Times are in microseconds of the machine's clock. -/
structure FrameTiming where
  lock : LockState
  rate : Rate
  measured : Nat
  goodIntervals : Nat
  holdover : Nat
  glitches : Nat
  runts : Nat
  lastPulse : Option Nat
  lastFrameStart : Option Nat
  nextDue : Option Nat
  frameCount : Nat
  seconds : Nat
  started : Bool
deriving DecidableEq, Repr

/-! ### The Cell Evaluator (Chapter 4) -/

/-- The band settings a composition copies (R64, R73, R80, R81). -/
structure BandSettings where
  force : List Nat
  tide : List Int
  forceHyst : Nat
  tideHyst : Nat
  slack : Nat
  galeBand : Nat
deriving DecidableEq, Repr

/-- The gale notice mode (R87). -/
inductive GaleMode where
  | latched
  | tracking
deriving DecidableEq, Repr

/-- An entry of the Glyph Memory (R76). -/
structure GlyphEntry where
  force : Option Nat
  tide : Option Nat
deriving DecidableEq, Repr

/-- An entry of the Area Alert Table (R85). -/
inductive AlertState where
  | quiet
  | gale
deriving DecidableEq, Repr

/-- The band settings, the gale notice mode, the Glyph Memory and the Area Alert Table (entry i is area
i + 1). -/
structure Evaluator where
  bands : BandSettings
  galeMode : GaleMode
  glyphs : Store GlyphEntry
  alerts : Vector AlertState 31
deriving DecidableEq, Repr

/-- A direction: CALM or a sector 0..15 (R71, R72). -/
inductive Direction where
  | calm
  | sector (k : Nat)
deriving DecidableEq, Repr

/-- A trend (R81). -/
inductive Trend where
  | rising
  | falling
  | slack
deriving DecidableEq, Repr

/-- A cell result (R67) with its wind-evaluated flag (R148). -/
structure CellResult where
  col : Nat
  row : Nat
  area : Nat
  land : Bool
  wind : Option Wind
  speed : Option Nat
  direction : Option Direction
  rawForce : Option Nat
  shownForce : Option Nat
  tideHeight : Option Int
  tideBand : Option Nat
  shownTide : Option Nat
  trend : Option Trend
  windEvaluated : Bool
deriving DecidableEq, Repr

/-- An area summary (R83). -/
structure AreaSummary where
  maxBand : Option Nat
  windCells : Nat
  warned : Bool
deriving DecidableEq, Repr

/-! ### The Composer (Chapter 7) -/

/-- The chart part of a Frame Snapshot (R143): absent in an empty-page snapshot. -/
structure SnapshotChart where
  page : PageId
  copy : Page
  window : ChartWindow
  slotA : Option SlotRef
  slotB : Option SlotRef
  weight : Nat
  ended : Bool
  starved : Bool
  coastPending : Bool
  pieces : List Piece
  overflow : Nat
deriving DecidableEq, Repr

/-- A Frame Snapshot (R143); `chart` is none in an empty-page snapshot. -/
structure Snapshot where
  frame : Nat
  chart : Option SnapshotChart
deriving DecidableEq, Repr

/-- A composition in progress: its snapshot and the inputs fixed at its beginning (R64, R146, R147). -/
structure Composition where
  snapshot : Snapshot
  bands : BandSettings
  glyphs : Store GlyphEntry
  areaMap : Option AreaMap
  grid : Option Grid
  level : Nat
  feed : FeedState
deriving DecidableEq, Repr

/-- The chart part of a Frame Record (R148): absent in an empty-page record. -/
structure RecordChart where
  page : PageId
  layers : LayerSet
  stride : Nat
  hourA : Option Nat
  hourB : Option Nat
  weight : Nat
  level : Nat
  window : ChartWindow
  cells : List CellResult
  pieces : List Piece
  overflow : Nat
  summaries : List AreaSummary
  highlights : List Bool
  feedMark : Bool
  noData : Bool
  coastPending : Bool
  ended : Bool
deriving DecidableEq, Repr

/-- A Frame Record (R148); `chart` is none in an empty-page record. -/
structure FrameRecord where
  frame : Nat
  chart : Option RecordChart
deriving DecidableEq, Repr

/-- The outcome of a frame start judged by the Load Governor (R152). -/
inductive FrameOutcome where
  | late
  | onTime
deriving DecidableEq, Repr

/-- The Load Governor (R152); the late window is oldest first. -/
structure Governor where
  level : Nat
  window : List FrameOutcome
  run : Nat
deriving DecidableEq, Repr

/-- The Composer (R144). -/
structure Composer where
  composition : Option Composition
  mailbox : Option Snapshot
  completed : Option FrameRecord
  late : Nat
  lateFrames : Nat
  dropped : Nat
  governor : Governor
deriving DecidableEq, Repr

/-! ### The Output Stage (Chapters 7 and 10) -/

/-- The card choice (R154). -/
inductive Card where
  | still
  | freeze
deriving DecidableEq, Repr

/-- The operating mode (R182). -/
inductive Mode where
  | standby
  | rehearsal
  | onAir
  | dormant
deriving DecidableEq, Repr

/-- One thing the rasterisation of a Frame Record draws (R156). -/
inductive DrawnMark where
  | line (p : Piece)
  | areaHighlight (area : Nat) (gale warned : Bool)
  | arrow (col row sector band : Nat)
  | calmMark (col row : Nat)
  | tideColour (col row band : Nat)
  | trendMark (col row : Nat) (rising : Bool)
  | summaryPanel (area : Nat) (summary : AreaSummary)
  | feedMark
  | noDataMark
  | coastPendingMark
deriving DecidableEq, Repr

/-- A polyline drawn whole on the STILL card (R158). -/
structure WholeLine where
  kind : LineKind
  closed : Bool
  vertices : List Vertex
deriving DecidableEq, Repr

/-- What the fill carries (R155). The STILL card always carries the forecast-unavailable banner, and the
coastline of the whole grid where R158 gives it. -/
inductive Fill where
  | transparent
  | stillCard (coastline : Option (Grid × List WholeLine))
  | freezeCard (marks : List DrawnMark)
  | lineUpCard
  | chart (marks : List DrawnMark)
deriving DecidableEq, Repr

/-- What the key carries (R155): nothing, or the key of the fill then chosen. -/
inductive Key where
  | nothing
  | ofFill
deriving DecidableEq, Repr

/-- The Output Stage (R154, R155, R182). -/
structure OutputStage where
  shown : Option FrameRecord
  safeSet : Bool
  card : Card
  freeze : Option FrameRecord
  lineup : Bool
  mode : Mode
  fill : Fill
  key : Key
deriving DecidableEq, Repr

/-! ### The Notice Unit (Chapter 9) -/

/-- The seventeen events, in the order of R174's table. -/
inductive Notice where
  | loadPublished
  | loadRejected
  | feedErrors
  | feedStale
  | feedRestored
  | nextReady
  | cueEmpty
  | pageEnded
  | galeArea
  | warningInData
  | refLocked
  | refLost
  | freeRun
  | lateFrames
  | detailRecovered
  | safeEntered
  | safeLeft
deriving DecidableEq, Repr

/-- The five groups (R174). -/
inductive Group where
  | feed
  | shows
  | alert
  | timing
  | output
deriving DecidableEq, Repr

/-- The setting a mask gives a group (R175). -/
inductive Setting where
  | off
  | routine
  | urgent
deriving DecidableEq, Repr

/-- A notice record: one flag for each event (R175). -/
structure NoticeRecord where
  loadPublished : Bool
  loadRejected : Bool
  feedErrors : Bool
  feedStale : Bool
  feedRestored : Bool
  nextReady : Bool
  cueEmpty : Bool
  pageEnded : Bool
  galeArea : Bool
  warningInData : Bool
  refLocked : Bool
  refLost : Bool
  freeRun : Bool
  lateFrames : Bool
  detailRecovered : Bool
  safeEntered : Bool
  safeLeft : Bool
deriving DecidableEq, Repr

/-- A notice mask: one setting for each group (R175). -/
structure NoticeMask where
  feed : Setting
  shows : Setting
  alert : Setting
  timing : Setting
  output : Setting
deriving DecidableEq, Repr

/-! ### The link ports (Chapter 8) -/

/-- The receiver of a port (R165). -/
inductive Receiver where
  | hunting
  | receiving
deriving DecidableEq, Repr

/-- The outcome codes, in the order of the table of 8.3. -/
inductive OutcomeCode where
  | done
  | accepted
  | clamped
  | wrongPort
  | badKind
  | badLength
  | badGrid
  | badHour
  | noGrid
  | gridInUse
  | gridMismatch
  | noSlot
  | noStep
  | loadOpen
  | noLoad
  | queueFull
  | coastFull
  | noPage
  | nothingCued
  | nothingLive
  | insertActive
  | stackFull
  | stackEmpty
  | onAir
deriving DecidableEq, Repr

/-- A field of a reply, before its encoding (R164): one octet, a number in two octets, or one in four. -/
inductive Field where
  | octet (n : Nat)
  | num (n : Int)
  | long (n : Nat)
deriving DecidableEq, Repr

/-- The LIVE state of the LIVE summary (R121). -/
inductive LiveState where
  | empty
  | running
  | held
deriving DecidableEq, Repr

/-- The lock state as a status header shows it (R169). -/
inductive LockShown where
  | freeRun
  | acquiring
  | locked
  | holdover
  | stopped
deriving DecidableEq, Repr

/-- The status header of a reply (R169). -/
structure StatusHeader where
  urgent : Bool
  routine : Bool
  live : LiveState
  ended : Bool
  starved : Bool
  depth : Nat
  feed : FeedState
  lock : LockShown
  mode : Mode
  safe : Bool
deriving DecidableEq, Repr

/-- A reply: its outcome, its status header and the fields of its request's rule (R168). -/
structure Reply where
  outcome : OutcomeCode
  header : StatusHeader
  fields : List Field
deriving DecidableEq, Repr

/-- The reply frame a serving port is sending (R166, R168). -/
structure ReplyFrame where
  kind : Octet
  tag : Octet
  reply : Reply
deriving DecidableEq, Repr

/-- A link port. `serving` is none while the port is idle. `lastReply` is the model's own field: the reply
to the last request taken at the port (log entry 37). -/
structure PortState where
  receiver : Receiver
  buffer : List LinkFrame
  serving : Option ReplyFrame
  linkErrors : Nat
  overruns : Nat
  record : NoticeRecord
  mask : NoticeMask
  resetSeen : Bool
  lastReply : Option Reply
deriving DecidableEq, Repr

/-- The three link ports. -/
structure Ports where
  ip : PortState
  dp : PortState
  pp : PortState
deriving DecidableEq, Repr

/-- The cause of the reset cause record (R171). -/
inductive ResetCause where
  | powerOn
  | resetLine
deriving DecidableEq, Repr

/-! ### The machine -/

/-- The whole generator. `now` is the model's microsecond clock (log entry 6); `resetLine` and `safeLine`
are the levels of the RESET and SAFE lines; `powerOnHeld` says that supply was established while the RESET
line was asserted (R186). -/
structure State where
  now : Nat
  resetLine : Bool
  powerOnHeld : Bool
  safeLine : Bool
  cause : ResetCause
  ports : Ports
  field : FieldStore
  ingest : Ingest
  feed : FeedMonitor
  coast : CoastStore
  areaMap : Option AreaMap
  ctl : ShowController
  timing : FrameTiming
  eval : Evaluator
  composer : Composer
  output : OutputStage
  pending : List Instr
deriving DecidableEq, Repr

/-- The faults. The spec gives every command an effect or a refusal with an outcome code, which is a next
state of this machine, so there is none. -/
inductive Fault where
deriving DecidableEq, Repr

/-- The refusals. -/
inductive Refusal where
  /-- Raised by `exec` for a command that has no meaning yet; safe. No arm raises it. -/
  | notModelled (mnemonic : String)
deriving DecidableEq, Repr

/-! ### Initial values (R186 and the rules it gathers) -/

/-- A slot after power-on (R4). -/
def Slot.initial : Slot :=
  { state := .free, hour := none, fieldSet := none, generation := 0, pins := 0, loaded := 0,
    warnings := [], cells := [] }

/-- R21. -/
def FieldStore.initial : FieldStore :=
  { grid := none, slots := Vector.replicate 16 Slot.initial, timeline := [] }

/-- R23, R28, R29, R33. -/
def Ingest.initial : Ingest := { load := none, queue := [], inFlight := none, lastLoad := none }

/-- R37, R42. -/
def FeedMonitor.initial : FeedMonitor :=
  { state := .stale, window := .tenSeconds, targetM := 3, targetE := 0, coverageMin := 90,
    staleTimeout := 30, windowCount := 0, lastWindow := 0, continuous := 0, elapsed := 0,
    staleSeconds := 0, staleRunning := true }

/-- R45. -/
def CoastStore.initial : CoastStore := { state := .empty, vertices := [], polylines := [], marker := none }

/-- R92, R100, R112, R117, R122. -/
def ShowController.initial : ShowController :=
  { pages := Vector.replicate 32 none, queue := [], next := none, live := none, stack := [], hold := false }

/-- R124, at the time `t` of the event. The nominal period of 25 frames per second is 40000 (R123). -/
def FrameTiming.initial (t : Nat) : FrameTiming :=
  { lock := .freeRun, rate := .r25, measured := 40000, goodIntervals := 0, holdover := 0, glitches := 0,
    runts := 0, lastPulse := none, lastFrameStart := none, nextDue := some (t + 40000), frameCount := 0,
    seconds := 0, started := false }

/-- R73, R80, R81. -/
def BandSettings.initial : BandSettings :=
  { force := [10, 40, 70, 110, 170, 220, 280, 340, 410, 480, 560, 640],
    tide := [-200, 0, 100, 200, 300, 400, 500], forceHyst := 5, tideHyst := 3, slack := 10, galeBand := 8 }

/-- R76, R85, R87. -/
def Evaluator.initial : Evaluator :=
  { bands := BandSettings.initial, galeMode := .latched, glyphs := [], alerts := Vector.replicate 31 .quiet }

/-- R152. -/
def Governor.initial : Governor := { level := 0, window := [], run := 0 }

/-- R144. -/
def Composer.initial : Composer :=
  { composition := none, mailbox := none, completed := none, late := 0, lateFrames := 0, dropped := 0,
    governor := Governor.initial }

/-- R154, R182, R186: with the SAFE line asserted the fill carries the STILL card, the banner alone. -/
def OutputStage.initial (safeLine : Bool) : OutputStage :=
  { shown := none, safeSet := false, card := .still, freeze := none, lineup := false, mode := .standby,
    fill := if safeLine then .stillCard none else .transparent, key := .nothing }

/-- R175. -/
def NoticeRecord.empty : NoticeRecord :=
  { loadPublished := false, loadRejected := false, feedErrors := false, feedStale := false,
    feedRestored := false, nextReady := false, cueEmpty := false, pageEnded := false, galeArea := false,
    warningInData := false, refLocked := false, refLost := false, freeRun := false, lateFrames := false,
    detailRecovered := false, safeEntered := false, safeLeft := false }

/-- R175. -/
def NoticeMask.allOff : NoticeMask :=
  { feed := .off, shows := .off, alert := .off, timing := .off, output := .off }

/-- R170, R171, R175. -/
def PortState.initial : PortState :=
  { receiver := .hunting, buffer := [], serving := none, linkErrors := 0, overruns := 0,
    record := NoticeRecord.empty, mask := NoticeMask.allOff, resetSeen := true, lastReply := none }

def Ports.initial : Ports := { ip := PortState.initial, dp := PortState.initial, pp := PortState.initial }

/-- The generator right after power-on at time 0, with the RESET and SAFE lines released (R186, log
entry 10). -/
def State.reset : State :=
  { now := 0, resetLine := false, powerOnHeld := false, safeLine := false, cause := .powerOn,
    ports := Ports.initial, field := FieldStore.initial, ingest := Ingest.initial,
    feed := FeedMonitor.initial, coast := CoastStore.initial, areaMap := none,
    ctl := ShowController.initial, timing := FrameTiming.initial 0, eval := Evaluator.initial,
    composer := Composer.initial, output := OutputStage.initial false, pending := [] }

end Sys2Proof.Machine
end

