-- ==== Sys2Proof/Machine/Flags.lean ====
section
/-! DEFINITION. The notice records as flags: reading, raising, withdrawing and clearing them, the pending
flags and the attention lines (Chapter 9). -/

namespace Sys2Proof.Machine

/-- The group of an event (R174). -/
def noticeGroup : Notice → Group
  | .loadPublished => .feed
  | .loadRejected => .feed
  | .feedErrors => .feed
  | .feedStale => .feed
  | .feedRestored => .feed
  | .nextReady => .shows
  | .cueEmpty => .shows
  | .pageEnded => .shows
  | .galeArea => .alert
  | .warningInData => .alert
  | .refLocked => .timing
  | .refLost => .timing
  | .freeRun => .timing
  | .lateFrames => .timing
  | .detailRecovered => .timing
  | .safeEntered => .output
  | .safeLeft => .output

/-- The events in the order of R174's table. -/
def allNotices : List Notice :=
  [.loadPublished, .loadRejected, .feedErrors, .feedStale, .feedRestored, .nextReady, .cueEmpty,
   .pageEnded, .galeArea, .warningInData, .refLocked, .refLost, .freeRun, .lateFrames, .detailRecovered,
   .safeEntered, .safeLeft]

/-- The groups in the order of R174's table. -/
def allGroups : List Group := [.feed, .shows, .alert, .timing, .output]

/-- One flag of a record. -/
def NoticeRecord.get (r : NoticeRecord) : Notice → Bool
  | .loadPublished => r.loadPublished
  | .loadRejected => r.loadRejected
  | .feedErrors => r.feedErrors
  | .feedStale => r.feedStale
  | .feedRestored => r.feedRestored
  | .nextReady => r.nextReady
  | .cueEmpty => r.cueEmpty
  | .pageEnded => r.pageEnded
  | .galeArea => r.galeArea
  | .warningInData => r.warningInData
  | .refLocked => r.refLocked
  | .refLost => r.refLost
  | .freeRun => r.freeRun
  | .lateFrames => r.lateFrames
  | .detailRecovered => r.detailRecovered
  | .safeEntered => r.safeEntered
  | .safeLeft => r.safeLeft

/-- The record whose flags are given by a function. -/
def NoticeRecord.ofFn (f : Notice → Bool) : NoticeRecord :=
  { loadPublished := f .loadPublished, loadRejected := f .loadRejected, feedErrors := f .feedErrors,
    feedStale := f .feedStale, feedRestored := f .feedRestored, nextReady := f .nextReady,
    cueEmpty := f .cueEmpty, pageEnded := f .pageEnded, galeArea := f .galeArea,
    warningInData := f .warningInData, refLocked := f .refLocked, refLost := f .refLost,
    freeRun := f .freeRun, lateFrames := f .lateFrames, detailRecovered := f .detailRecovered,
    safeEntered := f .safeEntered, safeLeft := f .safeLeft }

/-- The setting a mask gives a group. -/
def NoticeMask.get (m : NoticeMask) : Group → Setting
  | .feed => m.feed
  | .shows => m.shows
  | .alert => m.alert
  | .timing => m.timing
  | .output => m.output

/-- The mask whose settings are given by a function. -/
def NoticeMask.ofFn (f : Group → Setting) : NoticeMask :=
  { feed := f .feed, shows := f .shows, alert := f .alert, timing := f .timing, output := f .output }

/-- Raising an event at one port: its flag is set where the mask gives its group ROUTINE or URGENT (R176). -/
def NoticeRecord.raise (m : NoticeMask) (e : Notice) (r : NoticeRecord) : NoticeRecord :=
  if m.get (noticeGroup e) = .off then r else NoticeRecord.ofFn fun x => decide (x = e) || r.get x

/-- Clearing one flag (R180). -/
def NoticeRecord.withdraw (e : Notice) (r : NoticeRecord) : NoticeRecord :=
  NoticeRecord.ofFn fun x => !decide (x = e) && r.get x

/-- Clearing every flag of the groups chosen (R179). -/
def NoticeRecord.clearGroups (cleared : Group → Bool) (r : NoticeRecord) : NoticeRecord :=
  NoticeRecord.ofFn fun x => !cleared (noticeGroup x) && r.get x

/-- The record holds at least one flag. -/
def NoticeRecord.holdsAny (r : NoticeRecord) : Bool := allNotices.any r.get

/-- The record holds a flag of a group that the mask gives the setting `g` (R176). -/
def NoticeRecord.holdsSetting (m : NoticeMask) (g : Setting) (r : NoticeRecord) : Bool :=
  allNotices.any fun e => r.get e && decide (m.get (noticeGroup e) = g)

/-- The state of a port. -/
def Ports.get (ps : Ports) : Port → PortState
  | .ip => ps.ip
  | .dp => ps.dp
  | .pp => ps.pp

/-- Replacing the state of a port. -/
def Ports.set (ps : Ports) (p : Port) (x : PortState) : Ports :=
  match p with
  | .ip => { ps with ip := x }
  | .dp => { ps with dp := x }
  | .pp => { ps with pp := x }

/-- Changing every port alike. -/
def Ports.map (f : PortState → PortState) (ps : Ports) : Ports :=
  { ip := f ps.ip, dp := f ps.dp, pp := f ps.pp }

/-- Changing the state of one port. -/
def State.modifyPort (s : State) (p : Port) (f : PortState → PortState) : State :=
  { s with ports := s.ports.set p (f (s.ports.get p)) }

/-- Raising an event at a port. -/
def PortState.raise (e : Notice) (x : PortState) : PortState := { x with record := x.record.raise x.mask e }

/-- Raising an event: its flag is set in the record of every subscribing port (R176). -/
def State.raise (s : State) (e : Notice) : State := { s with ports := s.ports.map (PortState.raise e) }

/-- Raising an event when a condition holds. -/
def State.raiseIf (s : State) (b : Bool) (e : Notice) : State := if b then s.raise e else s

/-- Withdrawing GALE_AREA from every port (R87, R180). -/
def State.withdrawGale (s : State) : State :=
  { s with ports := s.ports.map fun x => { x with record := x.record.withdraw .galeArea } }

/-- The attention line of a port: asserted exactly while its record holds a flag, and released while the
RESET line is asserted (R177). -/
def State.attention (s : State) (p : Port) : Bool := !s.resetLine && (s.ports.get p).record.holdsAny

end Sys2Proof.Machine
end

