-- ==== Sys2Proof/Machine/Operands.lean ====
section
/-! DEFINITION. How operands are read and written: the codes of named values (R164), the adjustment of a
value into its range, saturating counts, and the nominal figures of R123. -/

namespace Sys2Proof.Machine

/-- The nearer limit of `lo..hi` where `n` lies outside it. -/
def clampNat (lo hi n : Nat) : Nat := max lo (min hi n)

/-- The nearer limit of `lo..hi` where `i` lies outside it. -/
def clampInt (lo hi i : Int) : Int := max lo (min hi i)

/-- A count 0..65535, saturating. -/
def sat16 (n : Nat) : Nat := min 65535 n

/-- A count 0..16,777,215, saturating (R37). -/
def sat24 (n : Nat) : Nat := min 16777215 n

/-! ### Codes: the position of a value in the list its rule gives (R164) -/

def fieldSetOfCode : Nat → Option FieldSet
  | 0 => some .wind
  | 1 => some .tide
  | 2 => some .both
  | _ => none

def fieldSetCode : FieldSet → Nat
  | .wind => 0
  | .tide => 1
  | .both => 2

def slotStateCode : SlotState → Nat
  | .free => 0
  | .loading => 1
  | .ready => 2
  | .retiring => 3

/-- CLEAR, OPEN, CLOSING, CANCELLING (R23). -/
def loadStateCode : Option OpenLoad → Nat
  | none => 0
  | some l =>
    match l.phase with
    | .opened => 1
    | .closing => 2
    | .cancelling => 3

def loadOutcomeCode : LoadOutcome → Nat
  | .published => 0
  | .rejected => 1
  | .cancelled => 2

def feedStateCode : FeedState → Nat
  | .good => 0
  | .degraded => 1
  | .stale => 2

/-- A window code other than the four is set to 10 s (R42). -/
def feedWindowOfCode : Nat → Option FeedWindow
  | 0 => some .oneSecond
  | 1 => some .tenSeconds
  | 2 => some .sixtySeconds
  | 3 => some .continuous
  | _ => none

def feedWindowCode : FeedWindow → Nat
  | .oneSecond => 0
  | .tenSeconds => 1
  | .sixtySeconds => 2
  | .continuous => 3

/-- The length of a timed window in ticks of the seconds timebase (R38); none under CONTINUOUS (R39). -/
def windowLength : FeedWindow → Option Nat
  | .oneSecond => some 1
  | .tenSeconds => some 10
  | .sixtySeconds => some 60
  | .continuous => none

def coastStateCode : CoastState → Nat
  | .empty => 0
  | .loading => 1
  | .valid => 2

def lineKindOfCode : Nat → Option LineKind
  | 0 => some .coast
  | 1 => some .island
  | 2 => some .areaBoundary
  | _ => none

def cutStateCode : CutState → Nat
  | .done => 0
  | .cutting => 1
  | .awaiting => 2

def galeModeOfCode : Nat → Option GaleMode
  | 0 => some .latched
  | 1 => some .tracking
  | _ => none

def galeModeCode : GaleMode → Nat
  | .latched => 0
  | .tracking => 1

def alertCode : AlertState → Nat
  | .quiet => 0
  | .gale => 1

def endActionOfCode : Nat → Option EndAction
  | 0 => some .holdLast
  | 1 => some .loop
  | 2 => some .advance
  | _ => none

def endActionCode : EndAction → Nat
  | .holdLast => 0
  | .loop => 1
  | .advance => 2

def originCode : Origin → Nat
  | .cued => 0
  | .insert => 1

def prepCode : Prep → Nat
  | .preparing => 0
  | .ready => 1

def liveStateCode : LiveState → Nat
  | .empty => 0
  | .running => 1
  | .held => 2

def lockShownCode : LockShown → Nat
  | .freeRun => 0
  | .acquiring => 1
  | .locked => 2
  | .holdover => 3
  | .stopped => 4

def modeOfCode : Nat → Option Mode
  | 0 => some .standby
  | 1 => some .rehearsal
  | 2 => some .onAir
  | 3 => some .dormant
  | _ => none

def modeCode : Mode → Nat
  | .standby => 0
  | .rehearsal => 1
  | .onAir => 2
  | .dormant => 3

def cardOfCode : Nat → Option Card
  | 0 => some .still
  | 1 => some .freeze
  | _ => none

def cardCode : Card → Nat
  | .still => 0
  | .freeze => 1

/-- A field of two values: 1 for ON and 0 for OFF. -/
def onOffOfCode : Nat → Option Bool
  | 0 => some false
  | 1 => some true
  | _ => none

def flagCode (b : Bool) : Nat := if b then 1 else 0

def settingOfCode : Nat → Option Setting
  | 0 => some .off
  | 1 => some .routine
  | 2 => some .urgent
  | _ => none

def settingCode : Setting → Nat
  | .off => 0
  | .routine => 1
  | .urgent => 2

def groupCode : Group → Nat
  | .feed => 0
  | .shows => 1
  | .alert => 2
  | .timing => 3
  | .output => 4

def causeCode : ResetCause → Nat
  | .powerOn => 0
  | .resetLine => 1

/-- A direction is its sector index, or 16 for CALM (R164). -/
def directionCode : Direction → Nat
  | .calm => 16
  | .sector k => k

def trendCode : Trend → Nat
  | .rising => 0
  | .falling => 1
  | .slack => 2

/-- The position of an outcome in the table of outcome codes (8.3). -/
def outcomeCode : OutcomeCode → Nat
  | .done => 0
  | .accepted => 1
  | .clamped => 2
  | .wrongPort => 3
  | .badKind => 4
  | .badLength => 5
  | .badGrid => 6
  | .badHour => 7
  | .noGrid => 8
  | .gridInUse => 9
  | .gridMismatch => 10
  | .noSlot => 11
  | .noStep => 12
  | .loadOpen => 13
  | .noLoad => 14
  | .queueFull => 15
  | .coastFull => 16
  | .noPage => 17
  | .nothingCued => 18
  | .nothingLive => 19
  | .insertActive => 20
  | .stackFull => 21
  | .stackEmpty => 22
  | .onAir => 23

/-- DONE, ACCEPTED and CLAMPED report a request that was taken (8.3). -/
def isTaken : OutcomeCode → Bool
  | .done => true
  | .accepted => true
  | .clamped => true
  | _ => false

/-- CLAMPED when something was adjusted, DONE otherwise. -/
def doneOrClamped (adjusted : Bool) : OutcomeCode := if adjusted then .clamped else .done

/-! ### Nominal figures (R123), in whole microseconds -/

def rateOfCode : Nat → Option Rate
  | 25 => some .r25
  | 30 => some .r30
  | 50 => some .r50
  | 60 => some .r60
  | _ => none

def rateCode : Rate → Nat
  | .r25 => 25
  | .r30 => 30
  | .r50 => 50
  | .r60 => 60

def nominalPeriod : Rate → Nat
  | .r25 => 40000
  | .r30 => 33333
  | .r50 => 20000
  | .r60 => 16667

/-- 0.5 % of the nominal period, truncated toward zero. -/
def tolerance (r : Rate) : Nat := nominalPeriod r * 5 / 1000

/-- Half a period, truncated toward zero. -/
def halfPeriod (r : Rate) : Nat := nominalPeriod r / 2

/-- One and a half periods, truncated toward zero. -/
def oneAndHalfPeriods (r : Rate) : Nat := nominalPeriod r * 3 / 2

/-- An interval is good when it differs from the nominal period by no more than the tolerance (R125). -/
def goodInterval (r : Rate) (d : Nat) : Bool :=
  nominalPeriod r ≤ d + tolerance r && d ≤ nominalPeriod r + tolerance r

end Sys2Proof.Machine
end

