-- ==== Sys2Proof/Machine/Ops.lean ====
section
/-! DEFINITION. The shared operations: the sparse tables, the step slots with their pins and the Timeline
(Chapter 1), a request's answer, and the guard of the RESET line. -/

namespace Sys2Proof.Machine

/-! ### Sparse tables addressed by cell -/

/-- The key of a cell; a grid has at most 96 columns (R1). -/
def cellKey (col row : Nat) : Nat := row * 96 + col

/-- Reading a table: an unlisted key reads as `dflt`. -/
def storeGet {α : Type} (dflt : α) (k : Nat) : Store α → α
  | [] => dflt
  | (j, v) :: rest => if j = k then v else storeGet dflt k rest

/-- Listing a value under a key, in key order. -/
def storeInsert {α : Type} (k : Nat) (v : α) : Store α → Store α
  | [] => [(k, v)]
  | (j, w) :: rest =>
    if k < j then (k, v) :: (j, w) :: rest
    else if k = j then (k, v) :: rest
    else (j, w) :: storeInsert k v rest

/-- Writing a table: writing the value an unlisted key reads as removes the entry. -/
def storePut {α : Type} [DecidableEq α] (dflt : α) (k : Nat) (v : α) (m : Store α) : Store α :=
  if v = dflt then m.filter fun e => e.1 ≠ k else storeInsert k v m

/-- The canonical form: keys strictly rising and no entry equal to the default. -/
abbrev storeWf {α : Type} (dflt : α) (m : Store α) : Prop :=
  (m.map Prod.fst).Pairwise (· < ·) ∧ ∀ e ∈ m, e.2 ≠ dflt

/-- An absent entry of a cell array (R6). -/
def absentCell : CellValue := { wind := none, tide := none }

/-- An absent entry of the Glyph Memory (R76). -/
def absentGlyph : GlyphEntry := { force := none, tide := none }

/-- A cell the Area Map does not list: sea with area 0 (R51, R52). -/
def seaCell : MapEntry := { area := 0, land := false }

/-! ### Slots, pins and the Timeline (Chapter 1) -/

/-- A cell lies in the grid (R1). -/
def Grid.contains (g : Grid) (col row : Nat) : Bool := col < g.columns && row < g.rows

def Grid.cellCount (g : Grid) : Nat := g.columns * g.rows

/-- The contents of a slot that becomes FREE: the generation is kept (R9, R12, R18). -/
def Slot.freed (x : Slot) : Slot := { Slot.initial with generation := x.generation }

def FieldStore.slot (f : FieldStore) (i : SlotId) : Slot := f.slots[i]

def FieldStore.setSlot (f : FieldStore) (i : SlotId) (x : Slot) : FieldStore :=
  { f with slots := f.slots.set i x }

/-- The valid hour of a slot that holds one. -/
def FieldStore.hourOf (f : FieldStore) (i : SlotId) : Nat := (f.slot i).hour.getD 0

/-- A take increments the pin count (R17). -/
def FieldStore.take (f : FieldStore) (i : SlotId) : FieldStore :=
  f.setSlot i { f.slot i with pins := (f.slot i).pins + 1 }

/-- A release decrements the pin count, and retires a RETIRING slot whose count reaches 0 (R18). -/
def FieldStore.release (f : FieldStore) (i : SlotId) : FieldStore :=
  let x := f.slot i
  if x.state = .retiring ∧ x.pins - 1 = 0 then f.setSlot i x.freed
  else f.setSlot i { x with pins := x.pins - 1 }

def FieldStore.takeAll (f : FieldStore) (refs : List SlotRef) : FieldStore :=
  refs.foldl (fun g r => g.take r.slot) f

def FieldStore.releaseAll (f : FieldStore) (refs : List SlotRef) : FieldStore :=
  refs.foldl (fun g r => g.release r.slot) f

/-- A move: the references added are taken before those removed are released, so that a slot kept does not
pass through a count of 0 (R19). -/
def FieldStore.move (f : FieldStore) (added removed : List SlotRef) : FieldStore :=
  (f.takeAll added).releaseAll removed

/-- A READY slot leaves the Timeline: FREE with pin count 0, RETIRING otherwise (R12, R13). -/
def FieldStore.leaveTimeline (f : FieldStore) (i : SlotId) : FieldStore :=
  let x := f.slot i
  let g := { f with timeline := f.timeline.filter fun j => j ≠ i }
  if x.pins = 0 then g.setSlot i x.freed else g.setSlot i { x with state := .retiring }

/-- The Timeline's slot of an hour. -/
def FieldStore.slotOfHour (f : FieldStore) (h : Nat) : Option SlotId :=
  f.timeline.find? fun i => f.hourOf i = h

/-- The reference to a slot as it stands (R16). -/
def FieldStore.refTo (f : FieldStore) (i : SlotId) : SlotRef :=
  { slot := i, hour := f.hourOf i, generation := (f.slot i).generation }

/-- The READY slot with the smallest valid hour in `lo..hi` (R14): the Timeline ascends by hour. -/
def FieldStore.resolve (f : FieldStore) (lo hi : Nat) : Option SlotRef :=
  (f.timeline.find? fun i => lo ≤ f.hourOf i && f.hourOf i ≤ hi).map f.refTo

/-- The step after one of hour `h` in the range. -/
def FieldStore.resolveAfter (f : FieldStore) (h hi : Nat) : Option SlotRef := f.resolve (h + 1) hi

/-- Step a from `lo..hi` and step b the next READY hour after it (R98, R119, R141). -/
def FieldStore.resolvePair (f : FieldStore) (lo hi : Nat) : Option SlotRef × Option SlotRef :=
  match f.resolve lo hi with
  | none => (none, none)
  | some a => (some a, f.resolveAfter a.hour hi)

/-- A slot's place in the Timeline is that of its valid hour (R10, R11). -/
def FieldStore.enterTimeline (f : FieldStore) (i : SlotId) : FieldStore :=
  let h := f.hourOf i
  { f with timeline :=
      (f.timeline.filter fun j => f.hourOf j < h) ++ [i] ++ f.timeline.filter fun j => h < f.hourOf j }

/-- Publication of a LOADING slot, with the supersession of the READY slot of its hour (R11, R12). -/
def FieldStore.publish (f : FieldStore) (i : SlotId) : FieldStore :=
  let f₁ := match f.slotOfHour (f.hourOf i) with
    | some j => f.leaveTimeline j
    | none => f
  let x := f₁.slot i
  (f₁.setSlot i { x with state := .ready, generation := (x.generation + 1) % 256 }).enterTimeline i

/-- The lowest-numbered FREE slot (R7). -/
def FieldStore.lowestFree (f : FieldStore) : Option SlotId :=
  (List.finRange 16).find? fun i => (f.slot i).state = .free

/-- The two references of a pair of steps. -/
def refsOf (a b : Option SlotRef) : List SlotRef := a.toList ++ b.toList

def State.withField (s : State) (f : FieldStore) : State := { s with field := f }

/-! ### Answers to requests -/

/-- What a request's rule returns: an outcome, and the fields of its reply when it is taken. -/
structure Answer where
  outcome : OutcomeCode
  fields : List Field
deriving DecidableEq, Repr

/-- A refusal: outcome and status header only (R168). -/
def refuse (o : OutcomeCode) : Answer := { outcome := o, fields := [] }

/-- While the RESET line is asserted nothing is taken (R185): the command is lost. -/
def unlessFrozen (s s' : State) : Host.Outcome State Fault Refusal :=
  .next (if s.resetLine then s else s')

/-- The microsecond clock never runs back (log entry 6). -/
def State.at (s : State) (t : Nat) : State := { s with now := max s.now t }

/-- Safe holds while the SAFE line is asserted or the SAFE_SET flag is ON (R154). -/
def State.safeHolds (s : State) : Bool := s.safeLine || s.output.safeSet

end Sys2Proof.Machine
end

