-- ==== Sys2Proof/Machine/Replies.lean ====
section
/-! DEFINITION. Replies: the fields of a reply, the status header (R169), the LIVE summary (R121), the
octets of a reply frame with its check (R163, R164, R168), and recording a reply. -/

namespace Sys2Proof.Machine

/-! ### Fields (R164) -/

def numField (n : Nat) : List Field := [.num n]

def codeField (n : Nat) : List Field := [.octet n]

def flagField (b : Bool) : List Field := [.octet (flagCode b)]

def longField (n : Nat) : List Field := [.long n]

/-- A field that may be absent: an octet 1 before its value, or an octet 0. -/
def optField {α : Type} (item : α → List Field) : Option α → List Field
  | none => [.octet 0]
  | some a => .octet 1 :: item a

/-- A list preceded by one octet holding its number of items. -/
def listField {α : Type} (item : α → List Field) (xs : List α) : List Field :=
  .octet xs.length :: xs.flatMap item

/-- The octets of a field. -/
def fieldOctets : Field → List Octet
  | .octet n => codeOctets n
  | .num i => intOctets i
  | .long n => longOctets n

/-! ### The status header -/

/-- The LIVE state of the LIVE summary (R121). -/
def liveState (c : ShowController) : LiveState :=
  match c.live with
  | none => .empty
  | some _ => if c.hold then .held else .running

/-- The lock state as the header shows it: STOPPED while the mode is DORMANT (R169). -/
def lockShown (s : State) : LockShown :=
  if s.output.mode = .dormant then .stopped
  else match s.timing.lock with
    | .freeRun => .freeRun
    | .acquiring => .acquiring
    | .locked => .locked
    | .holdover => .holdover

/-- A context with no step a is starved (R96). -/
def Context.starved (x : Context) : Bool := x.stepA.isNone

/-- The status header of a reply on a port (R169), with the pending flags of R176. -/
def statusHeader (s : State) (p : Port) : StatusHeader :=
  let x := s.ports.get p
  { urgent := x.record.holdsSetting x.mask .urgent
    routine := x.record.holdsSetting x.mask .routine
    live := liveState s.ctl
    ended := s.ctl.live.any fun c => c.ended
    starved := s.ctl.live.any Context.starved
    depth := s.ctl.stack.length
    feed := s.feed.state
    lock := lockShown s
    mode := s.output.mode
    safe := s.safeHolds }

/-- The header's fields in the order of R169's table. -/
def headerFields (h : StatusHeader) : List Field :=
  flagField h.urgent ++ flagField h.routine ++ codeField (liveStateCode h.live) ++ flagField h.ended
    ++ flagField h.starved ++ numField h.depth ++ codeField (feedStateCode h.feed)
    ++ codeField (lockShownCode h.lock) ++ codeField (modeCode h.mode) ++ flagField h.safe

/-! ### The link frame (R163) -/

/-- One bit of the check: polynomial x^16 + x^12 + x^5 + 1, most significant bit first. -/
def checkBit (r : CheckWord) : CheckWord :=
  if r.msb then (r <<< 1) ^^^ 0x1021#16 else r <<< 1

/-- One octet entering the check register. -/
def checkOctet (r : CheckWord) (o : Octet) : CheckWord :=
  checkBit (checkBit (checkBit (checkBit (checkBit (checkBit (checkBit (checkBit
    (r ^^^ (o.setWidth 16 <<< 8)))))))))

/-- The check of a sequence of octets; the register starts at all ones. -/
def linkCheck (os : List Octet) : CheckWord := os.foldl checkOctet 0xFFFF#16

/-- The octets the check covers: length, kind, tag and payload. -/
def checkedOctets (kind tag : Octet) (payload : List Octet) : List Octet :=
  numOctets (payload.length + 2) ++ kind :: tag :: payload

/-- The check a frame with these contents carries. -/
def frameCheck (kind tag : Octet) (payload : List Octet) : CheckWord :=
  linkCheck (checkedOctets kind tag payload)

/-- The payload of a reply: outcome, status header, fields (R168). -/
def replyPayload (r : Reply) : List Octet :=
  codeOctets (outcomeCode r.outcome) ++ (headerFields r.header).flatMap fieldOctets
    ++ r.fields.flatMap fieldOctets

/-- Every octet of a reply frame, from its start octet through its check. -/
def replyFrameOctets (f : ReplyFrame) : List Octet :=
  let payload := replyPayload f.reply
  0xC3#8 :: checkedOctets f.kind f.tag payload ++ numOctets (frameCheck f.kind f.tag payload).toNat

/-! ### Recording a reply -/

/-- The reply formed after a request's own effects (R168). -/
def replyOf (p : Port) (r : State × Answer) : Reply :=
  { outcome := r.2.outcome, header := statusHeader r.1 p, fields := r.2.fields }

/-- A request taken at a port: its effects, and the reply formed at the same event (log entry 37). -/
def respond (p : Port) (r : State × Answer) : State :=
  r.1.modifyPort p fun x => { x with lastReply := some (replyOf p r) }

end Sys2Proof.Machine
end

