-- ==== Sys2Proof/Machine/Feed.lean ====
section
/-! DEFINITION. The Feed Monitor (2.5): errored records, the error window, the stale timer, FEED_SETTINGS,
and the tick of the seconds timebase. -/

namespace Sys2Proof.Machine

/-- The plain value of the target (R41). -/
def FeedMonitor.target (f : FeedMonitor) : Nat := f.targetM * 2 ^ f.targetE

/-- A count in the compact form (R41). -/
def compactPair (n : Nat) : Nat × Nat :=
  if n = 0 then (0, 0)
  else match (List.range 16).find? fun e => n ≤ 15 * 2 ^ e with
    | some e => ((n + 2 ^ e - 1) / 2 ^ e, e)
    | none => (15, 15)

def State.withFeed (s : State) (f : FeedMonitor) : State := { s with feed := f }

/-- An errored record (R38 in a timed window, R39 under CONTINUOUS). -/
def State.erroredRecord (s : State) : State :=
  let f := s.feed
  if f.window = .continuous then
    let n := sat24 (f.continuous + 1)
    if f.target < n ∧ f.state = .good then
      (s.withFeed { f with continuous := n, state := .degraded }).raise .feedErrors
    else s.withFeed { f with continuous := n }
  else s.withFeed { f with windowCount := sat24 (f.windowCount + 1) }

/-- The end of a timed window (R38). -/
def State.endWindow (s : State) : State :=
  let f := s.feed
  let f' := { f with lastWindow := f.windowCount, windowCount := 0, elapsed := 0 }
  if f.target < f.windowCount then
    if f.state = .good then (s.withFeed { f' with state := .degraded }).raise .feedErrors
    else s.withFeed f'
  else if f.state = .degraded then (s.withFeed { f' with state := .good }).raise .feedRestored
  else s.withFeed f'

/-- The expiry of the stale timer (R40). -/
def State.expireStale (s : State) : State :=
  let f := s.feed
  let f' := { f with staleSeconds := f.staleTimeout, staleRunning := false }
  if f.state = .stale then s.withFeed f' else (s.withFeed { f' with state := .stale }).raise .feedStale

/-- A good-check frame on the Ingest Port restarts the stale timer and restores a STALE feed (R40). -/
def State.goodIngestFrame (s : State) : State :=
  let f := s.feed
  let f' := { f with staleSeconds := 0, staleRunning := true }
  if f.state = .stale then (s.withFeed { f' with state := .good }).raise .feedRestored else s.withFeed f'

/-- The counts zeroed, a new window begun, the stale timer restarted, a DEGRADED feed restored: what
FEED_SETTINGS and INGEST_RESET share (R42, R44). -/
def State.restartFeed (s : State) : State :=
  let f := s.feed
  let f' := { f with windowCount := 0, lastWindow := 0, continuous := 0, elapsed := 0,
                     staleSeconds := 0, staleRunning := true }
  if f.state = .degraded then (s.withFeed { f' with state := .good }).raise .feedRestored
  else s.withFeed f'

/-! ### The seconds timebase -/

/-- The current window is complete. -/
def FeedMonitor.windowDue (f : FeedMonitor) : Bool :=
  (windowLength f.window).any fun n => n ≤ f.elapsed

/-- The stale timer has reached its timeout. -/
def FeedMonitor.staleDue (f : FeedMonitor) : Bool := f.staleRunning && f.staleTimeout ≤ f.staleSeconds

/-- `n` seconds pass on the seconds timebase, the window and the stale timer, none of the two running past
the tick at which its own event falls (log entry 4). -/
def State.passSeconds (s : State) (n : Nat) : State :=
  let f := s.feed
  { s with
    timing := { s.timing with seconds := s.timing.seconds + n }
    feed := { f with
      elapsed := match windowLength f.window with
        | some len => min len (f.elapsed + n)
        | none => f.elapsed
      staleSeconds := if f.staleRunning then min f.staleTimeout (f.staleSeconds + n) else f.staleSeconds } }

/-- One tick of the seconds timebase, with the window end and the expiry that fall at it. Where both fall
at one tick their order is a free value (log entry 5). -/
def State.tick (s : State) : State :=
  if s.resetLine then s
  else
    let s₁ := s.passSeconds 1
    if s₁.feed.windowDue then
      if s₁.feed.staleDue then
        if Config.windowEndFirst s₁.timing.seconds then s₁.endWindow.expireStale
        else s₁.expireStale.endWindow
      else s₁.endWindow
    else if s₁.feed.staleDue then s₁.expireStale
    else s₁

/-- WINDOW_END (R38): the tick that completes the window's length. Under CONTINUOUS there is none (R39). -/
def execWindowEnd (s : State) : Host.Outcome State Fault Refusal :=
  unlessFrozen s <|
    match windowLength s.feed.window with
    | some len => (s.passSeconds (len - s.feed.elapsed)).endWindow
    | none => s

/-- STALE_TIMER_EXPIRY (R40): the tick at which the running stale timer reaches its timeout. -/
def execStaleTimerExpiry (s : State) : Host.Outcome State Fault Refusal :=
  unlessFrozen s <|
    if s.feed.staleRunning then (s.passSeconds (s.feed.staleTimeout - s.feed.staleSeconds)).expireStale
    else s

/-! ### FEED_SETTINGS -/

/-- The settings in force, as FEED_SETTINGS replies them (R42). -/
def feedSettingFields (f : FeedMonitor) : List Field :=
  codeField (feedWindowCode f.window) ++ numField f.targetM ++ numField f.targetE
    ++ numField f.coverageMin ++ numField f.staleTimeout

/-- The settings FEED_SETTINGS puts in force: an absent field keeps its value, a present one is adjusted
(R42). -/
def FeedMonitor.withSettings (f : FeedMonitor) (x : FeedFields) : FeedMonitor :=
  { f with
    window := match x.window with
      | some c => (feedWindowOfCode c).getD .tenSeconds
      | none => f.window
    targetM := match x.target with
      | some (m, _) => min 15 m
      | none => f.targetM
    targetE := match x.target with
      | some (_, e) => min 15 e
      | none => f.targetE
    coverageMin := match x.coverage with
      | some c => min 100 c
      | none => f.coverageMin
    staleTimeout := match x.staleTimeout with
      | some t => clampNat 10 600 t
      | none => f.staleTimeout }

/-- Whether FEED_SETTINGS adjusted a field. -/
def feedFieldsAdjusted (x : FeedFields) : Bool :=
  (x.window.any fun c => (feedWindowOfCode c).isNone)
    || (x.target.any fun p => decide (15 < p.1) || decide (15 < p.2))
    || (x.coverage.any fun c => decide (100 < c))
    || (x.staleTimeout.any fun t => decide (clampNat 10 600 t ≠ t))

/-- FEED_SETTINGS (R42). -/
def feedSettings (x : FeedFields) (s : State) : State × Answer :=
  let s' := (s.withFeed (s.feed.withSettings x)).restartFeed
  (s', { outcome := doneOrClamped (feedFieldsAdjusted x), fields := feedSettingFields s'.feed })

/-- The FEED_SETTINGS command. -/
def execFeedSettings (x : FeedFields) (s : State) : Host.Outcome State Fault Refusal :=
  unlessFrozen s (respond .ip (feedSettings x s))

end Sys2Proof.Machine
end

