-- ==== Sys2Proof/Machine/Ingest.lean ====
section
/-! DEFINITION. Forecast ingest (Chapter 2): the open-load record, the Ingest Queue, the drain and the
judgement of the close, with STEP_DROP (R13). -/

namespace Sys2Proof.Machine

def State.withIngest (s : State) (x : Ingest) : State := { s with ingest := x }

/-! ### Opening a load -/

/-- The clean-up of a warning list: the numbers kept, and the clamps counted (R25). -/
def cleanWarnings (ws : List Nat) : List Nat × Nat :=
  ws.foldl (fun (acc : List Nat × Nat) n =>
    if n < 1 ∨ 31 < n then (acc.1, acc.2 + 1)
    else if n ∈ acc.1 then acc
    else if acc.1.length = 8 then (acc.1, acc.2 + 1)
    else (acc.1 ++ [n], acc.2)) ([], 0)

/-- STEP_OPEN (R24) with the Field Store's choice of slot (R7). -/
def stepOpen (hour fieldSet : Nat) (warnings : List Nat) (s : State) : State × Answer :=
  match fieldSetOfCode fieldSet with
  | none => (s, refuse .badLength)
  | some fs =>
    if 16 < warnings.length then (s, refuse .badLength)
    else if s.field.grid.isNone then (s, refuse .noGrid)
    else if 240 < hour then (s, refuse .badHour)
    else if s.ingest.load.isSome then (s, refuse .loadOpen)
    else match s.field.lowestFree with
      | none => (s, refuse .noSlot)
      | some i =>
        let (kept, clamps) := cleanWarnings warnings
        let x : Slot := { s.field.slot i with
          state := .loading, hour := some hour, fieldSet := some fs, pins := 0, loaded := 0,
          warnings := kept, cells := [] }
        let l : OpenLoad :=
          { phase := .opened, slot := i, hour := hour, fieldSet := fs, clamps := clamps, misplaced := 0 }
        ((s.withField (s.field.setSlot i x)).withIngest { s.ingest with load := some l },
          { outcome := doneOrClamped (0 < clamps), fields := numField i ++ listField numField kept })

def execStepOpen (hour fieldSet : Nat) (warnings : List Nat) (s : State) :
    Host.Outcome State Fault Refusal :=
  unlessFrozen s (respond .ip (stepOpen hour fieldSet warnings s))

/-! ### The end of a load -/

/-- The load ends without publication: its slot becomes FREE, the last-load result is written and the
open-load record cleared (R9, R33). -/
def State.dropLoad (s : State) (l : OpenLoad) (o : LoadOutcome) (coverage : Option Nat) : State :=
  (s.withField (s.field.setSlot l.slot (s.field.slot l.slot).freed)).withIngest
    { s.ingest with
      load := none
      lastLoad := some { outcome := o, hour := l.hour, slot := l.slot, coverage := coverage,
                         generation := none, clamps := l.clamps, misplaced := l.misplaced } }

/-- Coverage in whole percent, truncated toward zero (R32). -/
def FieldStore.coverage (f : FieldStore) (i : SlotId) : Nat :=
  match f.grid with
  | some g => (f.slot i).loaded * 100 / g.cellCount
  | none => 0

/-- Publication of a load (R11, R32, R33). -/
def State.publishLoad (s : State) (l : OpenLoad) (coverage : Nat) : State :=
  let f := s.field.publish l.slot
  let s₁ := (s.withField f).withIngest
    { s.ingest with
      load := none
      lastLoad := some { outcome := .published, hour := l.hour, slot := l.slot, coverage := some coverage,
                         generation := some (f.slot l.slot).generation, clamps := l.clamps,
                         misplaced := l.misplaced } }
  (s₁.raise .loadPublished).raiseIf (!(s.field.slot l.slot).warnings.isEmpty) .warningInData

/-- The judgement of the close (R32). -/
def State.judgeClose (s : State) : State :=
  match s.ingest.load with
  | none => s
  | some l =>
    let c := s.field.coverage l.slot
    if s.feed.coverageMin ≤ c then s.publishLoad l c
    else (s.dropLoad l .rejected (some c)).raise .loadRejected

/-- The idle Assembler takes the head entry, unless the mode is DORMANT (R29). -/
def State.takeHead (s : State) : State :=
  if s.ingest.inFlight.isSome ∨ s.output.mode = .dormant then s
  else match s.ingest.queue with
    | [] => s
    | .block b :: rest => s.withIngest { s.ingest with queue := rest, inFlight := some b }
    | .close :: rest => (s.withIngest { s.ingest with queue := rest }).judgeClose

/-! ### The queue -/

/-- CELL_BLOCK (R26). -/
def cellBlock (row firstCol count : Nat) (values : List CellValue) (s : State) : State × Answer :=
  if count < 1 ∨ 96 < count ∨ values.length ≠ count then (s, refuse .badLength)
  else match s.ingest.load with
    | none => (s, refuse .noLoad)
    | some l =>
      if l.phase ≠ .opened then (s, refuse .noLoad)
      else if 64 ≤ s.ingest.queue.length then (s, refuse .queueFull)
      else
        let b : CellBlock := { row := row, firstCol := firstCol, count := count, values := values }
        ((s.withIngest { s.ingest with queue := s.ingest.queue ++ [.block b] }).takeHead,
          { outcome := .accepted, fields := numField (s.ingest.queue.length + 1) })

def execCellBlock (row firstCol count : Nat) (values : List CellValue) (s : State) :
    Host.Outcome State Fault Refusal :=
  unlessFrozen s (respond .ip (cellBlock row firstCol count values s))

/-- STEP_CLOSE (R27). -/
def stepClose (s : State) : State × Answer :=
  match s.ingest.load with
  | none => (s, refuse .noLoad)
  | some l =>
    if l.phase ≠ .opened then (s, refuse .noLoad)
    else if 64 ≤ s.ingest.queue.length then (s, refuse .queueFull)
    else
      ((s.withIngest { s.ingest with load := some { l with phase := .closing },
                                     queue := s.ingest.queue ++ [.close] }).takeHead,
        { outcome := .accepted, fields := [] })

def execStepClose (s : State) : Host.Outcome State Fault Refusal :=
  unlessFrozen s (respond .ip (stepClose s))

/-- Cancelling an OPEN or CLOSING load: the queue empties, and the load ends at once unless a drain is in
flight (R34). -/
def State.cancelLoad (s : State) (l : OpenLoad) : State :=
  let s₁ := s.withIngest { s.ingest with queue := [] }
  if s.ingest.inFlight.isSome then
    s₁.withIngest { s₁.ingest with load := some { l with phase := .cancelling } }
  else s₁.dropLoad l .cancelled none

/-- STEP_CANCEL (R34). -/
def stepCancel (s : State) : State × Answer :=
  match s.ingest.load with
  | none => (s, refuse .noLoad)
  | some l =>
    let s' := if l.phase = .cancelling then s else s.cancelLoad l
    (s', { outcome := .done, fields := codeField (loadStateCode s'.ingest.load) })

def execStepCancel (s : State) : Host.Outcome State Fault Refusal :=
  unlessFrozen s (respond .ip (stepCancel s))

/-! ### The drain -/

/-- A wind component in its range, and whether it was set to a limit (R31). -/
def adjustComponent (i : Int) : Int × Nat :=
  let j := clampInt (-1500) 1500 i
  (j, if j = i then 0 else 1)

/-- A wind part as written: dropped from a TIDE load, and each component clamped and counted (R31). -/
def adjustWind (fs : FieldSet) : Option Wind → Option Wind × Nat
  | none => (none, 0)
  | some w =>
    if fs = .tide then (none, 1)
    else
      let (u, a) := adjustComponent w.u
      let (v, b) := adjustComponent w.v
      (some { u := u, v := v }, a + b)

/-- A tide part as written: dropped from a WIND load, and clamped and counted (R31). -/
def adjustTide (fs : FieldSet) : Option Int → Option Int × Nat
  | none => (none, 0)
  | some h =>
    if fs = .wind then (none, 1)
    else
      let j := clampInt (-1000) 2000 h
      (some j, if j = h then 0 else 1)

/-- A value as written, and the clamps it counts (R31). -/
def adjustValue (fs : FieldSet) (v : CellValue) : CellValue × Nat :=
  let (w, a) := adjustWind fs v.wind
  let (h, b) := adjustTide fs v.tide
  ({ wind := w, tide := h }, a + b)

/-- Writing values from a column on: the cell array and the clamps counted (R31). -/
def writeValues (fs : FieldSet) (row : Nat) :
    Nat → List CellValue → Store CellValue × Nat → Store CellValue × Nat
  | _, [], acc => acc
  | col, v :: vs, acc =>
    let (x, n) := adjustValue fs v
    writeValues fs row (col + 1) vs (storePut absentCell (cellKey col row) x acc.1, acc.2 + n)

/-- A placed block is written into the LOADING slot as one event (R31, R6). -/
def State.writeBlock (s : State) (l : OpenLoad) (b : CellBlock) : State :=
  let x := s.field.slot l.slot
  let (cells, n) := writeValues l.fieldSet b.row b.firstCol b.values (x.cells, 0)
  (s.withField (s.field.setSlot l.slot { x with cells := cells, loaded := cells.length })).withIngest
    { s.ingest with load := some { l with clamps := sat16 (l.clamps + n) } }

/-- A block is placed when it lies wholly in the grid (R30). -/
def blockPlaced (g : Option Grid) (b : CellBlock) : Bool :=
  g.any fun d => b.row < d.rows && b.firstCol + b.count ≤ d.columns

/-- The completion of a drain (R30, R31, R35). -/
def State.completeDrain (s : State) (b : CellBlock) : State :=
  let s₁ := s.withIngest { s.ingest with inFlight := none }
  match s.ingest.load with
  | none => s₁
  | some l =>
    if l.phase = .cancelling then s₁.dropLoad l .cancelled none
    else if blockPlaced s.field.grid b then (s₁.writeBlock l b).takeHead
    else
      (s₁.withIngest { s₁.ingest with load := some { l with misplaced := sat16 (l.misplaced + 1) } }
        ).erroredRecord.takeHead

/-- DRAIN_COMPLETION: with no drain in flight there is none to complete (log entry 2). -/
def execDrainCompletion (s : State) : Host.Outcome State Fault Refusal :=
  unlessFrozen s <|
    match s.ingest.inFlight with
    | some b => s.completeDrain b
    | none => s

/-! ### INGEST_RESET, FEED_READ and STEP_DROP -/

/-- A section reset on a port: the notice record is cleared and the two link counts zeroed (R170, R175). -/
def State.resetPort (s : State) (p : Port) : State :=
  s.modifyPort p fun x => { x with record := NoticeRecord.empty, linkErrors := 0, overruns := 0 }

/-- INGEST_RESET (R44, R22, R175). -/
def ingestReset (s : State) : State × Answer :=
  let s₁ : State := s.resetPort .ip
  let s₂ : State := match s₁.ingest.load with
    | some l => if l.phase = .cancelling then s₁ else s₁.cancelLoad l
    | none => s₁
  ((s₂.withIngest { s₂.ingest with queue := [] }).restartFeed, { outcome := .done, fields := [] })

def execIngestReset (s : State) : Host.Outcome State Fault Refusal :=
  unlessFrozen s (respond .ip (ingestReset s))

/-- A count in plain figures and as a compact pair (R43). -/
def countFields (n : Nat) : List Field :=
  let (m, e) := compactPair n
  longField n ++ numField m ++ numField e

/-- The open-load record (R23). -/
def loadFields (l : Option OpenLoad) : List Field :=
  codeField (loadStateCode l) ++ optField (fun x => numField x.slot.val) l
    ++ optField (fun x => numField x.hour) l ++ optField (fun x => codeField (fieldSetCode x.fieldSet)) l
    ++ numField ((l.map fun x => x.clamps).getD 0) ++ numField ((l.map fun x => x.misplaced).getD 0)

/-- The last-load result (R33). -/
def loadResultFields (x : LoadResult) : List Field :=
  codeField (loadOutcomeCode x.outcome) ++ numField x.hour ++ numField x.slot ++ optField numField x.coverage
    ++ optField numField x.generation ++ numField x.clamps ++ numField x.misplaced

/-- The reply of FEED_READ (R43). The condition of the stale timer is carried as a field of two values, 1 for
running: the model's choice (log entry 42). -/
def feedReadFields (s : State) : List Field :=
  let f := s.feed
  codeField (feedStateCode f.state)
    ++ codeField (feedWindowCode f.window) ++ numField f.targetM ++ numField f.targetE ++ longField f.target
    ++ numField f.coverageMin ++ numField f.staleTimeout
    ++ countFields f.windowCount ++ countFields f.lastWindow ++ countFields f.continuous
    ++ optField (fun _ => numField f.elapsed) (windowLength f.window)
    ++ numField f.staleSeconds ++ flagField f.staleRunning
    ++ loadFields s.ingest.load
    ++ numField s.ingest.queue.length ++ flagField s.ingest.inFlight.isSome
    ++ optField loadResultFields s.ingest.lastLoad

/-- FEED_READ (R43). -/
def feedRead (s : State) : State × Answer := (s, { outcome := .done, fields := feedReadFields s })

def execFeedRead (s : State) : Host.Outcome State Fault Refusal :=
  unlessFrozen s (respond .ip (feedRead s))

/-- STEP_DROP (R13). The reply's state is carried by its position in R4's list of the four slot states, so RETIRING
is 3: the model's choice (log entry 41). -/
def stepDrop (hour : Nat) (s : State) : State × Answer :=
  if 240 < hour then (s, refuse .badHour)
  else match s.field.slotOfHour hour with
    | none => (s, refuse .noStep)
    | some i =>
      let f := s.field.leaveTimeline i
      (s.withField f,
        { outcome := .done, fields := numField i ++ codeField (slotStateCode (f.slot i).state) })

def execStepDrop (hour : Nat) (s : State) : Host.Outcome State Fault Refusal :=
  unlessFrozen s (respond .ip (stepDrop hour s))

end Sys2Proof.Machine
end

