-- ==== Sys2Proof/Machine/Coast.lean ====
section
/-! DEFINITION. The Coast and Area Store (Chapter 3): the coast store, the Area Map, and the window cut
that gives each context its Cut List. -/

namespace Sys2Proof.Machine

def State.withCoast (s : State) (x : CoastStore) : State := { s with coast := x }

def State.withCtl (s : State) (x : ShowController) : State := { s with ctl := x }

/-! ### The window cut (3.3) -/

/-- The exact quotient rounded to nearest, half away from zero (R58). -/
def divHalfAway (n d : Int) : Int :=
  let q : Int := (2 * n.natAbs + d.natAbs) / (2 * d.natAbs)
  if (n < 0) = (d < 0) then q else -q

/-- A segment, from its start to its end. -/
abbrev Segment := Vertex × Vertex

/-- Clipping against an edge line at x = `e` (R58). -/
def clipX (inside : Int → Bool) (e : Int) (g : Segment) : Option Segment :=
  let (a, b) := g
  let y := a.y + divHalfAway ((b.y - a.y) * (e - a.x)) (b.x - a.x)
  match inside a.x, inside b.x with
  | true, true => some g
  | false, false => none
  | true, false => some (a, { x := e, y := y })
  | false, true => some ({ x := e, y := y }, b)

/-- Clipping against an edge line at y = `e` (R58). -/
def clipY (inside : Int → Bool) (e : Int) (g : Segment) : Option Segment :=
  let (a, b) := g
  let x := a.x + divHalfAway ((b.x - a.x) * (e - a.y)) (b.y - a.y)
  match inside a.y, inside b.y with
  | true, true => some g
  | false, false => none
  | true, false => some (a, { x := x, y := e })
  | false, true => some ({ x := x, y := e }, b)

/-- The four edges of the cut rectangle in sixteenths of a cell (R57). -/
def cutLeft (w : ChartWindow) : Int := 16 * w.col
def cutRight (w : ChartWindow) : Int := 16 * (w.col + w.width) - 1
def cutTop (w : ChartWindow) : Int := 16 * w.row
def cutBottom (w : ChartWindow) : Int := 16 * (w.row + w.height) - 1

/-- A segment clipped against the left, right, top and bottom edges in turn (R58). -/
def clipSegment (w : ChartWindow) (g : Segment) : Option Segment := do
  let g ← clipX (fun x => cutLeft w ≤ x) (cutLeft w) g
  let g ← clipX (fun x => x ≤ cutRight w) (cutRight w) g
  let g ← clipY (fun y => cutTop w ≤ y) (cutTop w) g
  clipY (fun y => y ≤ cutBottom w) (cutBottom w) g

/-- The vertices of a polyline (R46). -/
def polylineVertices (c : CoastStore) (p : Polyline) : List Vertex := (c.vertices.drop p.first).take p.count

/-- The segments of a polyline: vertex to vertex, then the closing segment of a closed polyline of three or
more vertices (R46). -/
def polylineSegments (c : CoastStore) (p : Polyline) : List Segment :=
  let vs := polylineVertices c p
  vs.zip vs.tail ++
    if p.closed ∧ 3 ≤ vs.length then (vs.getLast?.toList).zip vs.head?.toList else []

/-- The pieces of one polyline in a window: survivors whose ends differ (R59). -/
def polylinePieces (c : CoastStore) (w : ChartWindow) (p : Polyline) (index : Nat) : List Piece :=
  (polylineSegments c p).filterMap fun g =>
    match clipSegment w g with
    | some (a, b) => if a = b then none else some { kind := p.kind, polyline := index, start := a, finish := b }
    | none => none

/-- Every piece of the store in a window, in load order (R57). -/
def allPieces (c : CoastStore) (w : ChartWindow) : List Piece :=
  c.polylines.zipIdx.flatMap fun p => polylinePieces c w p.1 p.2

/-- The coast part a completed cut gives: the first 4096 pieces, and the number dropped (R59, R60). -/
def completedCut (c : CoastStore) (w : ChartWindow) : CoastPart :=
  let ps := allPieces c w
  { cut := .done, pieces := ps.take 4096, overflow := ps.length - 4096 }

/-- The coast part at a request for a cut: empty, CUTTING when the store is VALID and AWAITING otherwise
(R56). -/
def requestedCut (c : CoastStore) : CoastPart :=
  { cut := if c.state = .valid then .cutting else .awaiting, pieces := [], overflow := 0 }

/-! ### The contexts of the Show Controller -/

/-- Changing every existing context alike: NEXT, LIVE and the stacked contexts. -/
def ShowController.mapContexts (f : Context → Context) (c : ShowController) : ShowController :=
  { c with next := c.next.map f, live := c.live.map f, stack := c.stack.map fun e => e.map f }

/-- The context in a place. -/
def ShowController.at (c : ShowController) : ContextPlace → Option Context
  | .next => c.next
  | .live => c.live
  | .stack i => (c.stack[i]?).join

/-- Replacing the context in a place. -/
def ShowController.put (c : ShowController) (place : ContextPlace) (x : Context) : ShowController :=
  match place with
  | .next => { c with next := some x }
  | .live => { c with live := some x }
  | .stack i => { c with stack := c.stack.set i (some x) }

/-- NEXT is PREPARING. -/
def ShowController.nextPreparing (c : ShowController) : Bool := c.next.any fun x => x.prep = some .preparing

/-- NEXT is READY. -/
def ShowController.nextReady (c : ShowController) : Bool := c.next.any fun x => x.prep = some .ready

/-- A PREPARING NEXT becomes READY, and NEXT_READY is raised (R104). -/
def State.answerNext (s : State) : State :=
  if s.ctl.nextPreparing then
    (s.withCtl { s.ctl with next := s.ctl.next.map fun x => { x with prep := some .ready } }).raise .nextReady
  else s

/-- A cut in flight is abandoned and the context waits for the next COAST_END (R61). -/
def Context.abandonCut (x : Context) : Context :=
  if x.coast.cut = .cutting then { x with coast := { cut := .awaiting, pieces := [], overflow := 0 } } else x

/-- A waiting context's cut begins (R61). -/
def Context.beginWaitingCut (x : Context) : Context :=
  if x.coast.cut = .awaiting then { x with coast := { cut := .cutting, pieces := [], overflow := 0 } } else x

/-- The completion of the cut in flight for the context in a place (R60). -/
def State.completeCut (s : State) (place : ContextPlace) : State :=
  match s.ctl.at place with
  | none => s
  | some x =>
    if x.coast.cut = .cutting then
      let s₁ := s.withCtl (s.ctl.put place { x with coast := completedCut s.coast x.window })
      if place = .next then s₁.answerNext else s₁
    else s

/-- WINDOW_CUT_COMPLETION: with no cut in flight in that place there is none to complete (log entry 2). -/
def execWindowCutCompletion (place : ContextPlace) (s : State) : Host.Outcome State Fault Refusal :=
  unlessFrozen s (s.completeCut place)

/-! ### The coast store (3.1) -/

/-- The state of the store, its polylines and its vertices, as every coast reply carries them (R45). -/
def coastFields (c : CoastStore) : List Field :=
  codeField (coastStateCode c.state) ++ numField c.polylines.length ++ numField c.vertices.length

/-- COAST_BEGIN (R47, R61). -/
def coastBegin (s : State) : State × Answer :=
  let c : CoastStore := { state := .loading, vertices := [], polylines := [], marker := none }
  let s₁ := (s.withCoast c).withCtl (s.ctl.mapContexts Context.abandonCut)
  (s₁.answerNext, { outcome := .done, fields := coastFields c })

def execCoastBegin (s : State) : Host.Outcome State Fault Refusal :=
  unlessFrozen s (respond .dp (coastBegin s))

/-- A vertex in range, and the number of its coordinates set to a limit (R48). -/
def clampVertex (p : Vertex) : Vertex × Nat :=
  let x := clampInt 0 1535 p.x
  let y := clampInt 0 1023 p.y
  ({ x := x, y := y }, (if x = p.x then 0 else 1) + if y = p.y then 0 else 1)

/-- The vertices of a part after clamping. -/
def clampVertices (vs : List Vertex) : List Vertex := vs.map fun p => (clampVertex p).1

/-- The coordinates adjusted in a part. -/
def adjustedCoordinates (vs : List Vertex) : Nat := (vs.map fun p => (clampVertex p).2).sum

/-- A refused COAST_LINE makes the open-polyline marker absent (R48). -/
def refuseLine (s : State) (o : OutcomeCode) : State × Answer :=
  (s.withCoast { s.coast with marker := none }, refuse o)

/-- COAST_LINE with part code NEW (R48). -/
def coastLineNew (kind : Nat) (closed : Bool) (vs : List Vertex) (s : State) : State × Answer :=
  let c := s.coast
  match lineKindOfCode kind with
  | none => refuseLine s .badLength
  | some k =>
    if vs.length < 2 ∨ 250 < vs.length then refuseLine s .badLength
    else if c.state ≠ .loading then refuseLine s .noLoad
    else if 512 ≤ c.polylines.length ∨ 8192 < c.vertices.length + vs.length then refuseLine s .coastFull
    else
      let line : Polyline := { first := c.vertices.length, count := vs.length, kind := k, closed := closed }
      let c' := { c with vertices := c.vertices ++ clampVertices vs, polylines := c.polylines ++ [line],
                         marker := some c.polylines.length }
      let n := adjustedCoordinates vs
      (s.withCoast c',
        { outcome := doneOrClamped (0 < n),
          fields := coastFields c' ++ numField n ++ numField c.polylines.length ++ numField vs.length })

def execCoastLineNew (kind : Nat) (closed : Bool) (vs : List Vertex) (s : State) :
    Host.Outcome State Fault Refusal :=
  unlessFrozen s (respond .dp (coastLineNew kind closed vs s))

/-- The marked polyline with its index. -/
def CoastStore.marked (c : CoastStore) : Option (Nat × Polyline) :=
  c.marker.bind fun i => (c.polylines[i]?).map fun p => (i, p)

/-- COAST_LINE with part code CONTINUE (R49). -/
def coastLineContinue (vs : List Vertex) (s : State) : State × Answer :=
  let c := s.coast
  if vs.length < 1 ∨ 250 < vs.length then refuseLine s .badLength
  else if c.state ≠ .loading then refuseLine s .noLoad
  else match c.marked with
    | none => refuseLine s .noLoad
    | some (i, p) =>
      if 1024 < p.count + vs.length then refuseLine s .badLength
      else if 8192 < c.vertices.length + vs.length then refuseLine s .coastFull
      else
        let c' := { c with vertices := c.vertices ++ clampVertices vs,
                           polylines := c.polylines.set i { p with count := p.count + vs.length } }
        let n := adjustedCoordinates vs
        (s.withCoast c',
          { outcome := doneOrClamped (0 < n),
            fields := coastFields c' ++ numField i ++ numField (p.count + vs.length) ++ numField n })

def execCoastLineContinue (vs : List Vertex) (s : State) : Host.Outcome State Fault Refusal :=
  unlessFrozen s (respond .dp (coastLineContinue vs s))

/-- COAST_END (R50, R61). -/
def coastEnd (s : State) : State × Answer :=
  if s.coast.state ≠ .loading then (s, refuse .noLoad)
  else
    let c := { s.coast with state := .valid, marker := none }
    ((s.withCoast c).withCtl (s.ctl.mapContexts Context.beginWaitingCut),
      { outcome := .done, fields := coastFields c })

def execCoastEnd (s : State) : Host.Outcome State Fault Refusal :=
  unlessFrozen s (respond .dp (coastEnd s))

/-! ### The Area Map (3.2) -/

/-- An entry of the Area Map; every cell of an ABSENT map is sea with area 0 (R51). -/
def mapEntry (m : Option AreaMap) (col row : Nat) : MapEntry :=
  match m with
  | some a => storeGet seaCell (cellKey col row) a.cells
  | none => seaCell

/-- AREA_MAP_BEGIN (R52). -/
def areaMapBegin (columns rows : Nat) (s : State) : State × Answer :=
  match s.field.grid with
  | none => (s, refuse .noGrid)
  | some g =>
    if columns ≠ g.columns ∨ rows ≠ g.rows then (s, refuse .gridMismatch)
    else
      ({ s with areaMap := some { columns := g.columns, rows := g.rows, cells := [] } },
        { outcome := .done, fields := [] })

def execAreaMapBegin (columns rows : Nat) (s : State) : Host.Outcome State Fault Refusal :=
  unlessFrozen s (respond .dp (areaMapBegin columns rows s))

/-- An entry as written: an area number above 31 becomes 0 (R53). -/
def adjustEntry (e : MapEntry) : MapEntry := if 31 < e.area then { e with area := 0 } else e

/-- Writing entries from a column on (R53). -/
def writeEntries (row : Nat) : Nat → List MapEntry → Store MapEntry → Store MapEntry
  | _, [], m => m
  | col, e :: es, m => writeEntries row (col + 1) es (storePut seaCell (cellKey col row) (adjustEntry e) m)

/-- AREA_MAP_ROW (R53). -/
def areaMapRow (row firstCol count : Nat) (entries : List MapEntry) (s : State) : State × Answer :=
  if count < 1 ∨ 96 < count ∨ entries.length ≠ count then (s, refuse .badLength)
  else match s.areaMap with
    | none => (s, refuse .noLoad)
    | some m =>
      if m.rows ≤ row ∨ m.columns < firstCol + count then (s, refuse .gridMismatch)
      else
        let n := (entries.filter fun e => 31 < e.area).length
        ({ s with areaMap := some { m with cells := writeEntries row firstCol entries m.cells } },
          { outcome := doneOrClamped (0 < n), fields := numField n })

def execAreaMapRow (row firstCol count : Nat) (entries : List MapEntry) (s : State) :
    Host.Outcome State Fault Refusal :=
  unlessFrozen s (respond .dp (areaMapRow row firstCol count entries s))

end Sys2Proof.Machine
end

