-- ==== Sys2Proof/Machine/Evaluate.lean ====
section
/-! DEFINITION. The arithmetic of the Cell Evaluator (Chapter 4): blending, speed, direction, bands,
hysteresis, trend and area summaries, and BANDS_WRITE and BANDS_READ. -/

namespace Sys2Proof.Machine

/-! ### Endpoints and blending (4.3) -/

/-- The blend of two endpoint values at weight `w`; the division is taken down (R69). -/
def blend (a b : Int) (w : Nat) : Int := a + ((b - a) * w + 128) / 256

/-- The value used for a field by the endpoint table (R68). -/
def endpointValue {α : Type} (mix : α → α → α) (w : Nat) : Option α → Option α → Option α
  | some a, some b => some (mix a b)
  | some a, none => some a
  | none, some b => if 128 ≤ w then some b else none
  | none, none => none

/-- The blend of two winds, component by component (R69). -/
def blendWind (w : Nat) (a b : Wind) : Wind := { u := blend a.u b.u w, v := blend a.v b.v w }

/-- The entry of a cell in a referenced slot; an absent slot has neither part (R68). -/
def entryOf (f : FieldStore) (r : Option SlotRef) (col row : Nat) : CellValue :=
  match r with
  | some x => storeGet absentCell (cellKey col row) (f.slot x.slot).cells
  | none => absentCell

/-! ### Speed and direction (4.4) -/

/-- The larger of |u| and |v|. -/
def windMajor (x : Wind) : Nat := max x.u.natAbs x.v.natAbs

/-- The smaller of |u| and |v|. -/
def windMinor (x : Wind) : Nat := min x.u.natAbs x.v.natAbs

/-- The speed of a wind, in tenths of a knot (R70). -/
def windSpeed (x : Wind) : Nat := windMajor x + 3 * windMinor x / 8

/-- The fine class (R71). -/
def fineClass (x : Wind) : Nat :=
  if 5 * windMinor x < windMajor x then 0 else if 3 * windMinor x < 2 * windMajor x then 1 else 2

/-- The sector index of a wind that is not calm (R72). -/
def sectorIndex (x : Wind) : Nat :=
  let k := fineClass x
  if x.u.natAbs ≤ x.v.natAbs then
    if 0 < x.v then (if 0 ≤ x.u then k else (16 - k) % 16)
    else (if 0 < x.u then 8 - k else 8 + k)
  else if 0 < x.u then (if 0 ≤ x.v then 4 - k else 4 + k)
  else (if 0 ≤ x.v then 12 + k else 12 - k)

/-- The direction of a wind (R71, R72). -/
def windDirection (x : Wind) : Direction := if windSpeed x = 0 then .calm else .sector (sectorIndex x)

/-! ### Bands and hysteresis (4.5, 4.6) -/

/-- The number of thresholds that are at most a value (R74, R80). -/
def bandOf (ts : List Int) (x : Int) : Nat := (ts.filter fun t => t ≤ x).length

/-- The shown band from the memory's band, the value and the hysteresis (R75, R80). -/
def shownBand (ts : List Int) (h : Nat) (memory : Option Nat) (x : Int) : Nat :=
  match memory with
  | none => bandOf ts x
  | some p => max (bandOf ts (x - h)) (min p (bandOf ts (x + h)))

/-- The force thresholds as whole numbers. -/
def BandSettings.forceTable (b : BandSettings) : List Int := b.force.map fun n => (n : Int)

/-- The raw force band of a wind (R74). -/
def rawForceBand (b : BandSettings) (x : Wind) : Nat := bandOf b.forceTable (windSpeed x)

/-- The trend from the unblended heights of the two steps (R81). -/
def trendOf (slack : Nat) (a b : Option Int) : Option Trend :=
  match a, b with
  | some x, some y =>
    if (y - x).natAbs ≤ slack then some .slack else if 0 < y - x then some .rising else some .falling
  | _, _ => none

/-! ### The result of one window cell (4.2, 4.7) -/

/-- The inputs of an evaluation (R64): the two slots, the weight and the settings fixed at the beginning. -/
structure EvalInputs where
  slotA : Option SlotRef
  slotB : Option SlotRef
  weight : Nat
  bands : BandSettings
  glyphs : Store GlyphEntry
  areaMap : Option AreaMap

/-- The wind of a cell after the endpoint rule (R68, R69). -/
def cellWind (f : FieldStore) (x : EvalInputs) (col row : Nat) : Option Wind :=
  endpointValue (blendWind x.weight) x.weight (entryOf f x.slotA col row).wind (entryOf f x.slotB col row).wind

/-- The tide height of a cell after the endpoint rule (R68, R69). -/
def cellTide (f : FieldStore) (x : EvalInputs) (col row : Nat) : Option Int :=
  endpointValue (fun a b => blend a b x.weight) x.weight (entryOf f x.slotA col row).tide
    (entryOf f x.slotB col row).tide

/-- The cell result of a window cell (R67). A land cell receives no wind and no tide (R82); a cell not
evaluated for wind has every wind part absent (R147). -/
def evaluateCell (f : FieldStore) (x : EvalInputs) (windEvaluated : Bool) (col row : Nat) : CellResult :=
  let m := mapEntry x.areaMap col row
  let g := storeGet absentGlyph (cellKey col row) x.glyphs
  let wind := if m.land || !windEvaluated then none else cellWind f x col row
  let tide := if m.land then none else cellTide f x col row
  { col := col, row := row, area := m.area, land := m.land
    wind := wind
    speed := wind.map windSpeed
    direction := wind.map windDirection
    rawForce := wind.map (rawForceBand x.bands)
    shownForce := wind.map fun w => shownBand x.bands.forceTable x.bands.forceHyst g.force (windSpeed w)
    tideHeight := tide
    tideBand := tide.map (bandOf x.bands.tide)
    shownTide := tide.map (shownBand x.bands.tide x.bands.tideHyst g.tide)
    trend := if m.land then none
      else trendOf x.bands.slack (entryOf f x.slotA col row).tide (entryOf f x.slotB col row).tide
    windEvaluated := windEvaluated }

/-! ### Area summaries (4.8) -/

/-- The sea cells of an area over the grid: the area's summary cells (R83). -/
def summaryCells (g : Option Grid) (m : Option AreaMap) (area : Nat) : List (Nat × Nat) :=
  match m with
  | none => []
  | some a =>
    (a.cells.filter fun e => e.2.area = area && !e.2.land
      && g.any fun d => d.contains (e.1 % 96) (e.1 / 96)).map fun e => (e.1 % 96, e.1 / 96)

/-- The largest of a list of bands; absent for none. -/
def maxBandOf (bs : List Nat) : Option Nat := bs.foldl (fun m b => some (max (m.getD 0) b)) none

/-- The warned flag of an area: the number is in the warning list of slot a or of slot b (R84). -/
def areaWarned (f : FieldStore) (a b : Option SlotRef) (area : Nat) : Bool :=
  (refsOf a b).any fun r => (f.slot r.slot).warnings.contains area

/-- The summary of one area (R83). -/
def areaSummary (f : FieldStore) (x : EvalInputs) (g : Option Grid) (area : Nat) : AreaSummary :=
  let bands := (summaryCells g x.areaMap area).filterMap fun c =>
    (cellWind f x c.1 c.2).map (rawForceBand x.bands)
  { maxBand := maxBandOf bands, windCells := bands.length, warned := areaWarned f x.slotA x.slotB area }

/-- The area numbers 1 to 31. -/
def areaNumbers : List Nat := (List.range 31).map (· + 1)

/-- The 31 summaries of a composition (R83). -/
def areaSummaries (f : FieldStore) (x : EvalInputs) (g : Option Grid) : List AreaSummary :=
  areaNumbers.map (areaSummary f x g)

/-- An area is in gale when its maximum band is present and at least the gale band (R85, R148). -/
def inGale (galeBand : Nat) (a : AreaSummary) : Bool := a.maxBand.any fun b => galeBand ≤ b

/-! ### BANDS_WRITE and BANDS_READ (4.9) -/

def State.withEval (s : State) (x : Evaluator) : State := { s with eval := x }

/-- Adjusting a written threshold list: each threshold is raised above the final value of the one before
it, then lowered to the cap that leaves room for the rest (R89, R90). -/
def adjustThresholds (top : Int) : Int → List Int → List Int
  | _, [] => []
  | prev, t :: ts =>
    let x := min (max t (prev + 1)) (top - ts.length)
    x :: adjustThresholds top x ts

/-- R89: within 1..2062. -/
def adjustForceList (ts : List Nat) : List Nat :=
  (adjustThresholds 2062 0 (ts.map fun n => (n : Int))).map Int.toNat

/-- R90: within −1000..2000. -/
def adjustTideList (ts : List Int) : List Int := adjustThresholds 2000 (-1001) ts

/-- The settings after a BANDS_WRITE; an absent field keeps its value (R88, R89, R90). -/
def BandSettings.write (b : BandSettings) (x : BandFields) : BandSettings :=
  { force := match x.force with
      | some l => adjustForceList l
      | none => b.force
    tide := match x.tide with
      | some l => adjustTideList l
      | none => b.tide
    forceHyst := match x.forceHyst with
      | some h => min 50 h
      | none => b.forceHyst
    tideHyst := match x.tideHyst with
      | some h => min 50 h
      | none => b.tideHyst
    slack := match x.slack with
      | some h => min 100 h
      | none => b.slack
    galeBand := match x.galeBand with
      | some g => clampNat 1 12 g
      | none => b.galeBand }

/-- Whether a BANDS_WRITE stores a value that differs from the one written (R88). -/
def bandFieldsAdjusted (x : BandFields) : Bool :=
  (x.force.any fun l => decide (adjustForceList l ≠ l)) || (x.tide.any fun l => decide (adjustTideList l ≠ l))
    || (x.forceHyst.any fun h => decide (50 < h)) || (x.tideHyst.any fun h => decide (50 < h))
    || (x.slack.any fun h => decide (100 < h)) || (x.galeBand.any fun g => decide (clampNat 1 12 g ≠ g))

/-- The settings and the Area Alert Table, as BANDS_READ replies them (R91), and BANDS_WRITE too (R88, log entry 49). -/
def bandFieldsReply (e : Evaluator) : List Field :=
  listField numField e.bands.force ++ listField (fun t : Int => [Field.num t]) e.bands.tide
    ++ numField e.bands.forceHyst ++ numField e.bands.tideHyst ++ numField e.bands.slack
    ++ numField e.bands.galeBand ++ codeField (galeModeCode e.galeMode)
    ++ listField (fun a => codeField (alertCode a)) e.alerts.toList

/-- The request fits its rule: list lengths and mode code (R88). -/
def bandFieldsFit (x : BandFields) : Bool :=
  (x.force.all fun l => l.length = 12) && (x.tide.all fun l => l.length = 7)
    && (x.mode.all fun m => (galeModeOfCode m).isSome)

/-- BANDS_WRITE (R88). Its reply is the whole of BANDS_READ's, the Area Alert Table included: the model's choice
(log entry 49). -/
def bandsWrite (x : BandFields) (s : State) : State × Answer :=
  if !bandFieldsFit x then (s, refuse .badLength)
  else
    let e : Evaluator := { s.eval with
      bands := s.eval.bands.write x
      galeMode := match x.mode with
        | some m => (galeModeOfCode m).getD s.eval.galeMode
        | none => s.eval.galeMode }
    (s.withEval e, { outcome := doneOrClamped (bandFieldsAdjusted x), fields := bandFieldsReply e })

def execBandsWrite (x : BandFields) (s : State) : Host.Outcome State Fault Refusal :=
  unlessFrozen s (respond .dp (bandsWrite x s))

/-- BANDS_READ (R91). -/
def bandsRead (s : State) : State × Answer := (s, { outcome := .done, fields := bandFieldsReply s.eval })

def execBandsRead (s : State) : Host.Outcome State Fault Refusal :=
  unlessFrozen s (respond .dp (bandsRead s))

/-! ### The clears of R78 and R86 -/

/-- Every entry of the Glyph Memory is made absent (R78). -/
def State.clearGlyphs (s : State) : State := s.withEval { s.eval with glyphs := [] }

/-- Every entry of the Area Alert Table is made QUIET (R86). -/
def State.clearAlerts (s : State) : State :=
  s.withEval { s.eval with alerts := Vector.replicate 31 .quiet }

end Sys2Proof.Machine
end

