-- ==== Sys2Proof/Machine/Show.lean ====
section
/-! DEFINITION. The Show Controller (Chapter 5): the Page Table, contexts, the Cue Queue and NEXT, taking
and clearing, the Insert Stack, hold and jump; and GRID_DEFINE, which reaches the contexts (1.1). -/

namespace Sys2Proof.Machine

/-! ### The Page Table (5.1) -/

/-- The octet of a layer set (R164). -/
def layersField (l : LayerSet) : List Field := codeField (layerOctet l).toNat

/-- A page record as a reply carries it, in the order of R92's table. -/
def pageRecordFields (p : Page) : List Field :=
  numField p.originCol ++ numField p.originRow ++ numField p.width ++ numField p.height ++ numField p.stride
    ++ layersField p.layers ++ numField p.first ++ numField p.last ++ numField p.framesPerStep
    ++ codeField (endActionCode p.endAction) ++ optField numField p.start

/-- A page number of the Page Table. -/
def pageIdOf (n : Nat) : Option PageId := if h : n < 32 then some ⟨n, h⟩ else none

/-- The record of a page. -/
def ShowController.page (c : ShowController) (i : PageId) : Option Page := c.pages[i]

/-- The number and record of a defined page (R101, R113). -/
def ShowController.definedPage (c : ShowController) (n : Nat) : Option (PageId × Page) :=
  (pageIdOf n).bind fun i => (c.page i).map fun p => (i, p)

/-- A page record as PAGE_WRITE stores it, each field adjusted (R93). -/
def adjustPage (f : PageFields) (e : EndAction) : Page :=
  let a := min 240 f.first
  let b := min 240 f.last
  let first := min a b
  let last := max a b
  { originCol := min 95 f.originCol, originRow := min 63 f.originRow
    width := clampNat 4 96 f.width, height := clampNat 4 64 f.height
    stride := clampNat 1 4 f.stride, layers := f.layers
    first := first, last := last
    framesPerStep := clampNat 1 250 f.framesPerStep, endAction := e
    start := f.start.map fun h => min last (max first (min 240 h)) }

/-- Whether a field stored differs from the field written (R93). -/
def pageAdjusted (f : PageFields) (p : Page) : Bool :=
  !(p.originCol == f.originCol && p.originRow == f.originRow && p.width == f.width && p.height == f.height
    && p.stride == f.stride && p.first == f.first && p.last == f.last
    && p.framesPerStep == f.framesPerStep && decide (p.start = f.start))

/-- PAGE_WRITE (R93). -/
def pageWrite (n : Nat) (f : PageFields) (s : State) : State × Answer :=
  match pageIdOf n with
  | none => (s, refuse .noPage)
  | some i =>
    match endActionOfCode f.endCode with
    | none => (s, refuse .badLength)
    | some e =>
      let p := adjustPage f e
      (s.withCtl { s.ctl with pages := s.ctl.pages.set i (some p) },
        { outcome := doneOrClamped (pageAdjusted f p), fields := numField n ++ pageRecordFields p })

def execPageWrite (n : Nat) (f : PageFields) (s : State) : Host.Outcome State Fault Refusal :=
  unlessFrozen s (respond .dp (pageWrite n f s))

/-- The pages a mask names (R94). -/
def maskedPages (mask : BitVec 32) : List PageId := (List.finRange 32).filter fun i => mask.getLsbD i

/-- Replacing the layer set of a page, if it is defined (R94). -/
def ShowController.setLayers (c : ShowController) (l : LayerSet) (i : PageId) : ShowController :=
  { c with pages := c.pages.set i ((c.page i).map fun p => { p with layers := l }) }

/-- PAGE_LAYERS (R94). -/
def pageLayers (mask : BitVec 32) (l : LayerSet) (s : State) : State × Answer :=
  let named := maskedPages mask
  let changed := (named.filter fun i => (s.ctl.page i).isSome).length
  (s.withCtl (named.foldl (fun c i => c.setLayers l i) s.ctl),
    { outcome := .done, fields := numField changed ++ numField (named.length - changed) })

def execPageLayers (mask : BitVec 32) (l : LayerSet) (s : State) : Host.Outcome State Fault Refusal :=
  unlessFrozen s (respond .dp (pageLayers mask l s))

/-- PAGE_READ (R95). For an undefined page the reply carries the page number and the clear flag, the flag alone
standing for the record: the model's choice (log entry 47). -/
def pageRead (n : Nat) (s : State) : State × Answer :=
  match pageIdOf n with
  | none => (s, refuse .noPage)
  | some i =>
    (s, { outcome := .done,
          fields := numField n ++ flagField (s.ctl.page i).isSome
            ++ ((s.ctl.page i).map pageRecordFields).getD [] })

def execPageRead (n : Nat) (s : State) : Host.Outcome State Fault Refusal :=
  unlessFrozen s (respond .dp (pageRead n s))

/-! ### Contexts (5.2) -/

/-- A page's window clamped to the grid (R97). -/
def clampWindow (g : Option Grid) (p : Page) : ChartWindow :=
  match g with
  | none => { col := 0, row := 0, width := 0, height := 0 }
  | some d =>
    let w := min p.width d.columns
    let h := min p.height d.rows
    { col := min p.originCol (d.columns - w), row := min p.originRow (d.rows - h), width := w, height := h }

/-- The effective start hour of a build (R98). -/
def effectiveStart (p : Page) (override : Option Nat) : Nat :=
  min p.last (max p.first ((override.orElse fun _ => p.start).getD p.first))

/-- The references a context holds. -/
def Context.refs (x : Context) : List SlotRef := refsOf x.stepA x.stepB

/-- The build of a context: its window, its steps with their pins taken, and its cut requested (R96, R97,
R98, R56). The preparation state is the caller's. -/
def State.buildContext (s : State) (i : PageId) (p : Page) (o : Origin) (override : Option Nat) :
    FieldStore × Context :=
  let start := effectiveStart p override
  let (a, b) := s.field.resolvePair start p.last
  let x : Context :=
    { page := i, origin := o, copy := p, startUsed := start, window := clampWindow s.field.grid p,
      coast := requestedCut s.coast, stepA := a, stepB := b, phase := 0, ended := false, prep := none }
  (s.field.takeAll x.refs, x)

/-- The release of a context: its references are released; its cut and Cut List go with it (R99). -/
def State.releaseContext (s : State) (x : Context) : State := s.withField (s.field.releaseAll x.refs)

/-- The release of what a place held, if anything. -/
def State.releaseEntry (s : State) (x : Option Context) : State :=
  match x with
  | some c => s.releaseContext c
  | none => s

/-! ### NEXT (5.3) -/

/-- Whether a window cut is in flight for a context. -/
def Context.cutting (x : Context) : Bool := decide (x.coast.cut = .cutting)

/-- NEXT is built from the head of the Cue Queue whenever NEXT is empty and the queue is not (R103, R104). -/
def State.buildNext (s : State) : State :=
  if s.ctl.next.isSome then s
  else match s.ctl.queue with
    | [] => s
    | e :: rest =>
      match s.ctl.page e.page with
      | none => s.withCtl { s.ctl with queue := rest }
      | some p =>
        let (f, x) := s.buildContext e.page p .cued e.start
        let x' := { x with prep := some (if x.cutting then .preparing else .ready) }
        let s₁ := (s.withField f).withCtl { s.ctl with queue := rest, next := some x' }
        (s₁.raiseIf (!x.cutting) .nextReady).raiseIf rest.isEmpty .cueEmpty

/-- CUE (R101). -/
def cue (n : Nat) (start : Option Nat) (s : State) : State × Answer :=
  match s.ctl.definedPage n with
  | none => (s, refuse .noPage)
  | some (i, _) =>
    if start.any fun h => decide (240 < h) then (s, refuse .badHour)
    else if 8 ≤ s.ctl.queue.length then (s, refuse .queueFull)
    else
      let s₁ := (s.withCtl { s.ctl with queue := s.ctl.queue ++ [{ page := i, start := start }] }).buildNext
      (s₁, { outcome := .done, fields := numField s₁.ctl.queue.length ++ flagField s.ctl.next.isNone })

def execCue (n : Nat) (start : Option Nat) (s : State) : Host.Outcome State Fault Refusal :=
  unlessFrozen s (respond .dp (cue n start s))

/-- CUE_CLEAR (R102). -/
def cueClear (s : State) : State × Answer :=
  (s.withCtl { s.ctl with queue := [] }, { outcome := .done, fields := numField s.ctl.queue.length })

def execCueClear (s : State) : Host.Outcome State Fault Refusal :=
  unlessFrozen s (respond .dp (cueClear s))

/-- A page number, or an indication that there is none. -/
def contextPageField (x : Option Context) : List Field := optField (fun c => numField c.page.val) x

/-- CUE_WITHDRAW (R105). -/
def cueWithdraw (s : State) : State × Answer :=
  match s.ctl.next with
  | none => (s, refuse .nothingCued)
  | some x =>
    let s₁ := (s.releaseContext x).withCtl { s.ctl with next := none }
    let s₂ := s₁.buildNext
    (s₂, { outcome := .done, fields := contextPageField s₂.ctl.next })

def execCueWithdraw (s : State) : Host.Outcome State Fault Refusal :=
  unlessFrozen s (respond .dp (cueWithdraw s))

/-- A slot reference: slot number, valid hour, generation (R106). -/
def refFields (r : SlotRef) : List Field := numField r.slot ++ numField r.hour ++ numField r.generation

/-- The coast-pending mark: set exactly while the cut state is not DONE (R55). -/
def CoastPart.pending (c : CoastPart) : Bool := decide (c.cut ≠ .done)

/-- A context report (R106). -/
def contextReport (x : Context) : List Field :=
  numField x.page ++ codeField (originCode x.origin) ++ numField x.startUsed
    ++ numField x.window.col ++ numField x.window.row ++ numField x.window.width ++ numField x.window.height
    ++ optField refFields x.stepA ++ optField refFields x.stepB
    ++ numField x.phase ++ numField x.copy.framesPerStep ++ flagField x.ended ++ flagField x.starved
    ++ optField (fun p => codeField (prepCode p)) x.prep
    ++ codeField (cutStateCode x.coast.cut) ++ numField x.coast.pieces.length ++ numField x.coast.overflow
    ++ flagField x.coast.pending

/-- CUE_READ (R106). A place of the Insert Stack that is empty and one that holds an empty marker are both
reported by an absent context report: the model's choice (log entry 43). -/
def cueRead (s : State) : State × Answer :=
  (s, { outcome := .done,
        fields := listField (fun e => numField e.page.val ++ optField numField e.start) s.ctl.queue
          ++ flagField s.ctl.hold ++ optField contextReport s.ctl.next ++ optField contextReport s.ctl.live
          ++ optField contextReport (s.ctl.at (.stack 0)) ++ optField contextReport (s.ctl.at (.stack 1)) })

def execCueRead (s : State) : Host.Outcome State Fault Refusal :=
  unlessFrozen s (respond .dp (cueRead s))

/-! ### Taking and clearing (5.4) -/

/-- What a taken TAKE does, for a NEXT context `x` (R107): LIVE is released, NEXT becomes LIVE, the Glyph
Memory, the Area Alert Table and the HOLD flag are cleared, and NEXT is built. -/
def State.takeNext (s : State) (x : Context) : State :=
  let s₁ := s.releaseEntry s.ctl.live
  let s₂ := s₁.withCtl { s₁.ctl with next := none, live := some { x with prep := none }, hold := false }
  s₂.clearGlyphs.clearAlerts.buildNext

/-- The reply of TAKE (R107). -/
def takeFields (c : ShowController) : List Field :=
  match c.live with
  | some x => numField x.page ++ codeField (cutStateCode x.coast.cut) ++ contextPageField c.next
  | none => []

/-- TAKE (R107). -/
def take (s : State) : State × Answer :=
  match s.ctl.next with
  | none => (s, refuse .nothingCued)
  | some x =>
    if !s.ctl.stack.isEmpty then (s, refuse .insertActive)
    else
      let s₁ := s.takeNext x
      (s₁, { outcome := .done, fields := takeFields s₁.ctl })

def execTake (s : State) : Host.Outcome State Fault Refusal :=
  unlessFrozen s (respond .pp (take s))

/-- Every entry of the Insert Stack is released, from the top down (R109, R110). -/
def State.releaseStack (s : State) : State :=
  let s₁ := s.ctl.stack.reverse.foldl (fun t x => t.releaseEntry x) s
  s₁.withCtl { s₁.ctl with stack := [] }

/-- TAKE_FORCE (R109). -/
def takeForce (s : State) : State × Answer :=
  match s.ctl.next with
  | none => (s, refuse .nothingCued)
  | some x =>
    let s₁ := s.releaseStack.takeNext x
    (s₁, { outcome := .done, fields := takeFields s₁.ctl ++ numField s.ctl.stack.length })

def execTakeForce (s : State) : Host.Outcome State Fault Refusal :=
  unlessFrozen s (respond .pp (takeForce s))

/-- CLEAR (R110). -/
def clear (s : State) : State × Answer :=
  let n := (s.ctl.live.toList ++ s.ctl.stack.filterMap id).length
  let s₁ := (s.releaseEntry s.ctl.live).releaseStack
  let s₂ := s₁.withCtl { s₁.ctl with live := none, hold := false }
  (s₂.clearGlyphs.clearAlerts, { outcome := .done, fields := numField n })

def execClear (s : State) : Host.Outcome State Fault Refusal :=
  unlessFrozen s (respond .pp (clear s))

/-! ### The Insert Stack (5.5) -/

/-- INSERT (R113). -/
def insert (n : Nat) (s : State) : State × Answer :=
  if 2 ≤ s.ctl.stack.length then (s, refuse .stackFull)
  else match s.ctl.definedPage n with
    | none => (s, refuse .noPage)
    | some (i, p) =>
      let (f, x) := s.buildContext i p .insert none
      let s₁ := (s.withField f).withCtl { s.ctl with stack := s.ctl.stack ++ [s.ctl.live], live := some x }
      (s₁.clearGlyphs.clearAlerts,
        { outcome := .done, fields := numField n ++ numField s₁.ctl.stack.length })

def execInsert (n : Nat) (s : State) : Host.Outcome State Fault Refusal :=
  unlessFrozen s (respond .dp (insert n s))

/-- INSERT_END (R115). -/
def insertEnd (s : State) : State × Answer :=
  match s.ctl.stack.getLast? with
  | none => (s, refuse .stackEmpty)
  | some top =>
    let s₁ := s.releaseEntry s.ctl.live
    let s₂ := s₁.withCtl { s₁.ctl with live := top, stack := s₁.ctl.stack.dropLast }
    (s₂.clearGlyphs.clearAlerts,
      { outcome := .done, fields := contextPageField top ++ numField s₂.ctl.stack.length })

def execInsertEnd (s : State) : Host.Outcome State Fault Refusal :=
  unlessFrozen s (respond .dp (insertEnd s))

/-! ### Hold, resume and jump (5.6) -/

/-- HOLD (R118). -/
def hold (s : State) : State × Answer :=
  (s.withCtl { s.ctl with hold := true }, { outcome := .done, fields := [] })

def execHold (s : State) : Host.Outcome State Fault Refusal :=
  unlessFrozen s (respond .dp (hold s))

/-- RESUME (R118). -/
def resume (s : State) : State × Answer :=
  (s.withCtl { s.ctl with hold := false }, { outcome := .done, fields := [] })

def execResume (s : State) : Host.Outcome State Fault Refusal :=
  unlessFrozen s (respond .dp (resume s))

/-- LIVE's steps are replaced as one move (R19). -/
def State.moveLive (s : State) (x : Context) (a b : Option SlotRef) (phase : Nat) (ended : Bool) : State :=
  (s.withField (s.field.move (refsOf a b) x.refs)).withCtl
    { s.ctl with live := some { x with stepA := a, stepB := b, phase := phase, ended := ended } }

/-- The hour and slot of a step (R119). -/
def stepFields (r : SlotRef) : List Field := numField r.hour ++ numField r.slot

/-- JUMP (R119). In the reply an absent step a is the indication that LIVE is starved, and no step b follows it (log
entry 16). -/
def jump (hour : Nat) (s : State) : State × Answer :=
  if 240 < hour then (s, refuse .badHour)
  else match s.ctl.live with
    | none => (s, refuse .nothingLive)
    | some x =>
      let (a, b) := s.field.resolvePair (max hour x.copy.first) x.copy.last
      ((s.moveLive x a b 0 false).clearGlyphs,
        { outcome := .done,
          fields := optField stepFields a ++ if a.isSome then optField stepFields b else [] })

def execJump (hour : Nat) (s : State) : Host.Outcome State Fault Refusal :=
  unlessFrozen s (respond .dp (jump hour s))

/-! ### DESK_RESET (5.8) -/

/-- DESK_RESET (R122, R170, R175). -/
def deskReset (s : State) : State × Answer :=
  let s₁ := s.modifyPort .dp fun x => { x with record := NoticeRecord.empty, linkErrors := 0, overruns := 0 }
  let s₂ := s₁.releaseEntry s₁.ctl.next
  (s₂.withCtl { s₂.ctl with queue := [], next := none, hold := false }, { outcome := .done, fields := [] })

def execDeskReset (s : State) : Host.Outcome State Fault Refusal :=
  unlessFrozen s (respond .dp (deskReset s))

/-! ### GRID_DEFINE (1.1) -/

/-- A context whose clamped window changes is re-cut: the cut in flight is abandoned and a cut requested
(R3); a context that is AWAITING stays so (R61). -/
def Context.reclamp (g : Option Grid) (c : CoastStore) (x : Context) : Context :=
  let w := clampWindow g x.copy
  if w = x.window then x
  else if x.coast.cut = .awaiting then { x with window := w }
  else { x with window := w, coast := requestedCut c }

/-- A NEXT that is PREPARING with no cut in flight has been answered (R56, log entry 33). -/
def State.answerAwaitingNext (s : State) : State :=
  if s.ctl.next.any fun x => !x.cutting then s.answerNext else s

/-- GRID_DEFINE (R2, R3). -/
def gridDefine (columns rows : Nat) (s : State) : State × Answer :=
  if s.field.slots.any fun x => decide (x.state ≠ .free) then (s, refuse .gridInUse)
  else if columns < 8 ∨ 96 < columns ∨ rows < 8 ∨ 64 < rows then (s, refuse .badGrid)
  else
    let g : Grid := { columns := columns, rows := rows }
    let s₁ := s.withField { s.field with grid := some g }
    let s₂ := { s₁ with areaMap := s₁.areaMap.filter fun m => m.columns = columns && m.rows = rows }
    let s₃ := (s₂.withCtl (s₂.ctl.mapContexts (Context.reclamp (some g) s₂.coast))).answerAwaitingNext
    (s₃.clearGlyphs, { outcome := .done, fields := numField columns ++ numField rows })

def execGridDefine (columns rows : Nat) (s : State) : Host.Outcome State Fault Refusal :=
  unlessFrozen s (respond .ip (gridDefine columns rows s))

end Sys2Proof.Machine
end

