-- ==== Sys2Proof/Machine/Compose.lean ====
section
/-! DEFINITION. The Composer and the Load Governor (7.1 to 7.3): snapshots arriving, compositions
beginning and completing, the Glyph Memory and the Area Alert Table written at a completion. -/

namespace Sys2Proof.Machine

def State.withComposer (s : State) (x : Composer) : State := { s with composer := x }

/-! ### The Load Governor (7.3) -/

/-- The late outcomes in a window. -/
def lateCount (w : List FrameOutcome) : Nat := (w.filter fun o => o = .late).length

/-- The late window after one more outcome: at most 50, the oldest leaving (R153). -/
def pushOutcome (w : List FrameOutcome) (o : FrameOutcome) : List FrameOutcome :=
  let w' := w ++ [o]
  w'.drop (w'.length - 50)

/-- The governor after a late frame start, and whether the level was raised (R153). -/
def Governor.late (g : Governor) : Governor × Bool :=
  let w := pushOutcome g.window .late
  if 3 ≤ lateCount w then
    ({ level := if g.level < 3 then g.level + 1 else g.level, window := [], run := 0 }, decide (g.level < 3))
  else ({ g with window := w, run := 0 }, false)

/-- The governor after an on-time frame start, and whether the level was lowered (R153). -/
def Governor.onTime (g : Governor) : Governor × Bool :=
  let w := pushOutcome g.window .onTime
  if 250 ≤ g.run + 1 then ({ level := g.level - 1, window := w, run := 0 }, decide (0 < g.level))
  else ({ g with window := w, run := g.run + 1 }, false)

/-- The governor judges a late frame start; a degrade that raises the level raises LATE_FRAMES (R153). -/
def State.judgeLate (s : State) : State :=
  let (g, raised) := s.composer.governor.late
  (s.withComposer { s.composer with governor := g }).raiseIf raised .lateFrames

/-- The governor judges an on-time frame start; a recovery that lowers the level raises DETAIL_RECOVERED
(R153). -/
def State.judgeOnTime (s : State) : State :=
  let (g, lowered) := s.composer.governor.onTime
  (s.withComposer { s.composer with governor := g }).raiseIf lowered .detailRecovered

/-! ### Compositions beginning (R145, R146) -/

/-- The references a snapshot holds. -/
def Snapshot.refs (x : Snapshot) : List SlotRef :=
  match x.chart with
  | some c => refsOf c.slotA c.slotB
  | none => []

/-- A composition begins: its inputs are fixed as they stand (R64, R54, R146); the snapshot's references
become the composition's (R19). -/
def State.beginComposition (s : State) (x : Snapshot) : State :=
  s.withComposer { s.composer with
    composition := some { snapshot := x, bands := s.eval.bands, glyphs := s.eval.glyphs,
                          areaMap := s.areaMap, grid := s.field.grid,
                          level := s.composer.governor.level, feed := s.feed.state } }

/-- The arrival of a snapshot whose takes are already made (R145). -/
def State.snapshotArrives (s : State) (x : Snapshot) : State :=
  if s.composer.composition.isSome then
    let s₁ := (s.withComposer { s.composer with lateFrames := sat16 (s.composer.lateFrames + 1) }).judgeLate
    match s₁.composer.mailbox with
    | none => s₁.withComposer { s₁.composer with mailbox := some x }
    | some old =>
      (s₁.withField (s₁.field.releaseAll old.refs)).withComposer
        { s₁.composer with mailbox := some x, late := sat16 (s₁.composer.late + 1) }
  else s.judgeOnTime.beginComposition x

/-! ### The cells of a composition (R147) -/

/-- The wind stride of a detail level; none at level 3. -/
def windStride (level stride : Nat) : Option Nat :=
  if level ≤ 1 then some stride else if level = 2 then some (min 8 (2 * stride)) else none

/-- The window cells of a composition as column and row offsets, rows from north to south and columns from
west to east, at the page stride and inside the grid in force at the beginning. -/
def windowOffsets (g : Option Grid) (w : ChartWindow) (stride : Nat) : List (Nat × Nat) :=
  ((List.range w.height).filter fun r => r % stride = 0).flatMap fun r =>
    ((List.range w.width).filter fun c => c % stride = 0 && g.any fun d => d.contains (w.col + c) (w.row + r)).map
      fun c => (c, r)

/-- Whether a window cell is evaluated for wind. -/
def windEvaluatedAt (level stride : Nat) (o : Nat × Nat) : Bool :=
  (windStride level stride).any fun n => o.1 % n = 0 && o.2 % n = 0

/-- The inputs of a composition's evaluations (R64); an empty-page composition has no slots (R66). -/
def Composition.inputs (x : Composition) : EvalInputs :=
  { slotA := x.snapshot.chart.bind fun c => c.slotA
    slotB := x.snapshot.chart.bind fun c => c.slotB
    weight := (x.snapshot.chart.map fun c => c.weight).getD 0
    bands := x.bands, glyphs := x.glyphs, areaMap := x.areaMap }

/-- The cell results of a composition, in the order of R148. -/
def Composition.cells (f : FieldStore) (x : Composition) : List CellResult :=
  match x.snapshot.chart with
  | none => []
  | some c =>
    (windowOffsets x.grid c.window c.copy.stride).map fun o =>
      evaluateCell f x.inputs (windEvaluatedAt x.level c.copy.stride o) (c.window.col + o.1) (c.window.row + o.2)

/-- The 31 area summaries of a composition (R83); those of an empty page are all empty (R66). -/
def Composition.summaries (f : FieldStore) (x : Composition) : List AreaSummary :=
  areaSummaries f x.inputs x.grid

/-- The Frame Record of a composition (R148). -/
def Composition.record (f : FieldStore) (x : Composition) : FrameRecord :=
  { frame := x.snapshot.frame
    chart := x.snapshot.chart.map fun c =>
      let sums := x.summaries f
      { page := c.page, layers := c.copy.layers, stride := c.copy.stride
        hourA := c.slotA.map fun r => r.hour
        hourB := c.slotB.map fun r => r.hour
        weight := c.weight, level := x.level, window := c.window
        cells := x.cells f, pieces := c.pieces, overflow := c.overflow
        summaries := sums
        highlights := sums.map (inGale x.bands.galeBand)
        feedMark := decide (x.feed ≠ .good) && c.copy.layers.feedMark
        noData := c.starved, coastPending := c.coastPending, ended := c.ended } }

/-! ### The completion of a composition (R149) -/

/-- The Glyph Memory after one cell result: written where the cell lies in the grid in force (R77, R3). -/
def writeGlyph (g : Option Grid) (m : Store GlyphEntry) (r : CellResult) : Store GlyphEntry :=
  if g.any fun d => d.contains r.col r.row then
    let k := cellKey r.col r.row
    let old := storeGet absentGlyph k m
    storePut absentGlyph k { force := if r.windEvaluated then r.shownForce else old.force, tide := r.shownTide } m
  else m

/-- The Area Alert Table a composition's summaries give (R85). -/
def alertsOf (galeBand : Nat) (sums : List AreaSummary) : Vector AlertState 31 :=
  Vector.ofFn fun i => if (sums[i.val]?).any (inGale galeBand) then .gale else .quiet

/-- An entry passes from QUIET to GALE. -/
def newGale (old new : Vector AlertState 31) : Bool :=
  (List.finRange 31).any fun i => decide (old[i] = .quiet) && decide (new[i] = .gale)

/-- No entry is GALE. -/
def allQuiet (a : Vector AlertState 31) : Bool := (List.finRange 31).all fun i => decide (a[i] = .quiet)

/-- The Glyph Memory and the Area Alert Table at a completion, with GALE_AREA raised (R77, R85) or, in
TRACKING mode with no area in gale, withdrawn (R87). -/
def State.writeEvaluation (s : State) (cells : List CellResult) (galeBand : Nat) (sums : List AreaSummary) :
    State :=
  let new := alertsOf galeBand sums
  let s₁ := s.withEval { s.eval with
    glyphs := cells.foldl (writeGlyph s.field.grid) s.eval.glyphs, alerts := new }
  let s₂ := s₁.raiseIf (newGale s.eval.alerts new) .galeArea
  if s.eval.galeMode = .tracking ∧ allQuiet new then s₂.withdrawGale else s₂

/-- The completion of the composition in progress (R149). -/
def State.completeComposition (s : State) (x : Composition) : State :=
  let record := x.record s.field
  let s₁ := s.withComposer { s.composer with
    composition := none
    completed := some record
    dropped := if s.composer.completed.isSome then sat16 (s.composer.dropped + 1) else s.composer.dropped }
  let s₂ := s₁.withField (s₁.field.releaseAll x.snapshot.refs)
  let s₃ := s₂.writeEvaluation (x.cells s.field) x.bands.galeBand (x.summaries s.field)
  match s₃.composer.mailbox with
  | some next => (s₃.withComposer { s₃.composer with mailbox := none }).beginComposition next
  | none => s₃

/-- COMPOSITION_COMPLETION: with no composition in progress there is none to complete (log entry 2). -/
def execCompositionCompletion (s : State) : Host.Outcome State Fault Refusal :=
  unlessFrozen s <|
    match s.composer.composition with
    | some x => s.completeComposition x
    | none => s

end Sys2Proof.Machine
end

