-- ==== Sys2Proof/Machine/Sequencer.lean ====
section
/-! DEFINITION. The Animation Sequencer (6.2): the advance of LIVE at a frame start, the end actions, and
the Frame Snapshot. -/

namespace Sys2Proof.Machine

/-- HOLD_LAST: step a is kept, step b released, the phase 0, the ended flag set and PAGE_ENDED raised (R138). -/
def State.endHoldLast (s : State) (x : Context) : State :=
  (s.moveLive x x.stepA none 0 true).raise .pageEnded

/-- LOOP: the steps are resolved from the page's first hour; with no READY hour LIVE is starved (R138). -/
def State.endLoop (s : State) (x : Context) : State :=
  let (a, b) := s.field.resolvePair x.copy.first x.copy.last
  s.moveLive x a b 0 false

/-- An ADVANCE may act as a take: NEXT is READY and the Insert Stack is empty (R139). -/
def ShowController.mayAdvance (c : ShowController) : Bool := c.nextReady && c.stack.isEmpty

/-- ADVANCE acting as a take of NEXT (R139). -/
def State.advanceTake (s : State) : State :=
  match s.ctl.next with
  | some n => s.takeNext n
  | none => s

/-- ADVANCE: a take where it may act as one, HOLD_LAST otherwise (R139). -/
def State.endAdvance (s : State) (x : Context) : State :=
  if s.ctl.mayAdvance then s.advanceTake else s.endHoldLast x

/-- The end action of a page whose hours have run out. -/
def State.endAction (s : State) (x : Context) : State :=
  match x.copy.endAction with
  | .holdLast => s.endHoldLast x
  | .loop => s.endLoop x
  | .advance => s.endAdvance x

/-- The step boundary: the next pair of steps is resolved by hour (R137). -/
def State.stepBoundary (s : State) (x : Context) (a : SlotRef) : State :=
  match s.field.resolveAfter a.hour x.copy.last with
  | some a' => s.moveLive x (some a') (s.field.resolveAfter a'.hour x.copy.last) 0 x.ended
  | none => s.endAction x

/-- The Timeline's slot of step a's hour other than step a's own (R140). -/
def FieldStore.republished (f : FieldStore) (a : SlotRef) : Option SlotId :=
  f.timeline.find? fun i => f.hourOf i = a.hour && decide (i ≠ a.slot)

/-- The ended check (R140). -/
def State.endedCheck (s : State) (x : Context) (a : SlotRef) : State :=
  match s.field.resolveAfter a.hour x.copy.last with
  | some b => s.moveLive x (some a) (some b) x.phase false
  | none =>
    if x.copy.endAction = .advance ∧ s.ctl.mayAdvance then s.advanceTake
    else match s.field.republished a with
      | some i => s.moveLive x (some (s.field.refTo i)) x.stepB x.phase true
      | none => s

/-- The re-resolution of a starved LIVE (R141). -/
def State.resolveStarved (s : State) (x : Context) : State :=
  match s.field.resolvePair x.copy.first x.copy.last with
  | (some a, b) => s.moveLive x (some a) b 0 false
  | (none, _) => s

/-- LIVE is advanced by exactly one of the three advances (R136). -/
def State.advanceLive (s : State) (x : Context) : State :=
  match x.stepA with
  | none => s.resolveStarved x
  | some a =>
    if x.ended then s.endedCheck x a
    else if x.phase + 1 < x.copy.framesPerStep then
      s.withCtl { s.ctl with live := some { x with phase := x.phase + 1 } }
    else s.stepBoundary x a

/-- The weight of a frame (R65). -/
def frameWeight (phase framesPerStep : Nat) : Nat := phase * 256 / framesPerStep

/-- The Frame Snapshot of LIVE as it stands (R143, R63). -/
def State.snapshot (s : State) : Snapshot :=
  { frame := s.timing.frameCount
    chart := s.ctl.live.map fun x =>
      { page := x.page, copy := x.copy, window := x.window, slotA := x.stepA, slotB := x.stepB
        weight := frameWeight x.phase x.copy.framesPerStep
        ended := x.ended, starved := x.starved, coastPending := x.coast.pending
        pieces := x.coast.pieces, overflow := x.coast.overflow } }

/-- The snapshot is sent: its takes and its arrival at the Composer are one event (R143, R145). -/
def State.sendSnapshot (s : State) : State :=
  let x := s.snapshot
  (s.withField (s.field.takeAll x.refs)).snapshotArrives x

/-- The advance of LIVE, unless it is empty or held (R136, R117). -/
def State.advance (s : State) : State :=
  match s.ctl.live with
  | some x => if s.ctl.hold then s else s.advanceLive x
  | none => s

/-- The modes in which the Sequencer works (R136). -/
def Mode.animates : Mode → Bool
  | .rehearsal => true
  | .onAir => true
  | .standby => false
  | .dormant => false

/-- The Sequencer at a frame start (R136). -/
def State.sequence (s : State) : State := if s.output.mode.animates then s.advance.sendSnapshot else s

end Sys2Proof.Machine
end

