-- ==== Sys2Proof/Machine/Output.lean ====
section
/-! DEFINITION. The Output Stage (7.4 to 7.6): rasterisation, the choice of fill and key, safe, the safe
card and the line-up card, CELL_READ and AREA_READ. -/

namespace Sys2Proof.Machine

def State.withOutput (s : State) (x : OutputStage) : State := { s with output := x }

/-! ### Rasterisation (R156) -/

/-- The line work a layer set draws: COAST draws COAST and ISLAND pieces, AREAS draws AREA_BOUNDARY. -/
def drawnPieces (l : LayerSet) (ps : List Piece) : List DrawnMark :=
  (ps.filter fun p => if p.kind = .areaBoundary then l.areas else l.coast).map DrawnMark.line

/-- The highlights of the areas in gale or warned. -/
def drawnHighlights (r : RecordChart) : List DrawnMark :=
  ((areaNumbers.zip (r.highlights.zip r.summaries)).filter fun x => x.2.1 || x.2.2.warned).map fun x =>
    .areaHighlight x.1 x.2.1 x.2.2.warned

/-- The wind mark of a cell entry. -/
def drawnWind (c : CellResult) : Option DrawnMark :=
  match c.windEvaluated, c.direction with
  | true, some .calm => some (.calmMark c.col c.row)
  | true, some (.sector k) => some (.arrow c.col c.row k (c.shownForce.getD 0))
  | _, _ => none

/-- The trend mark of a cell entry. -/
def drawnTrend (c : CellResult) : Option DrawnMark :=
  match c.trend with
  | some .rising => some (.trendMark c.col c.row true)
  | some .falling => some (.trendMark c.col c.row false)
  | _ => none

/-- Everything the rasterisation of a record draws (R156, log entry 26). -/
def rasterise (r : RecordChart) : List DrawnMark :=
  drawnPieces r.layers r.pieces
    ++ (if r.layers.areas then drawnHighlights r else [])
    ++ (if r.layers.wind then r.cells.filterMap drawnWind else [])
    ++ (if r.layers.tide then r.cells.filterMap fun c => c.shownTide.map (DrawnMark.tideColour c.col c.row) else [])
    ++ (if r.layers.trend then r.cells.filterMap drawnTrend else [])
    ++ (if r.layers.summaries && r.level == 0 then
          (areaNumbers.zip r.summaries).map fun x => .summaryPanel x.1 x.2 else [])
    ++ (if r.feedMark then [.feedMark] else [])
    ++ (if r.noData then [.noDataMark] else [])
    ++ (if r.coastPending then [.coastPendingMark] else [])

/-- The line-up card: a fixed picture that depends on no store (R160). -/
structure LineUpPicture where
  border : Bool
  centreCross : Bool
  arrowSectors : List Nat
  forceGlyphs : List Nat
  tideColours : List Nat

/-- R160. -/
def lineUpPicture : LineUpPicture :=
  { border := true, centreCross := true, arrowSectors := List.range 16, forceGlyphs := List.range 13,
    tideColours := List.range 8 }

/-! ### The choice of fill and key (R155, R158) -/

/-- The coastline of the whole grid on the STILL card, while the store is VALID and the grid DEFINED. -/
def stillCoastline (s : State) : Option (Grid × List WholeLine) :=
  match s.coast.state, s.field.grid with
  | .valid, some g =>
    some (g, s.coast.polylines.map fun p =>
      { kind := p.kind, closed := p.closed, vertices := polylineVertices s.coast p })
  | _, _ => none

/-- The safe card: the freeze record when there is one, the STILL card otherwise. -/
def safeCard (s : State) : Fill :=
  match s.output.freeze.bind fun r => r.chart with
  | some c => .freezeCard (rasterise c)
  | none => .stillCard (stillCoastline s)

/-- The fill by the first row of R155's table whose condition holds. -/
def chooseFill (s : State) : Fill :=
  if s.safeHolds then safeCard s
  else if s.output.lineup then .lineUpCard
  else if !s.output.mode.animates then .transparent
  else match s.output.shown.bind fun r => r.chart with
    | some c => .chart (rasterise c)
    | none => .transparent

/-- The key by the mode. -/
def chooseKey (m : Mode) : Key := if m = .onAir then .ofFill else .nothing

/-- The fill is chosen afresh. -/
def State.refill (s : State) : State := s.withOutput { s.output with fill := chooseFill s }

/-- The fill and the key are chosen afresh. -/
def State.refillKeyed (s : State) : State :=
  s.withOutput { s.output with fill := chooseFill s, key := chooseKey s.output.mode }

/-- While DORMANT an event that changes safe, the line-up flag or the mode chooses the fill at once; at
other times it follows from the next frame start. -/
def State.refillIfDormant (s : State) : State := if s.output.mode = .dormant then s.refill else s

/-- The Output Stage at a frame start (R155). -/
def State.outputFrame (s : State) : State :=
  match s.composer.completed with
  | some r =>
    ((s.withComposer { s.composer with completed := none }).withOutput
      { s.output with shown := some r }).refillKeyed
  | none => s.refillKeyed

/-! ### Safe (R157 to R159) -/

/-- Safe is entered: SAFE_ENTERED is raised, the card choice applied and the fill chosen (R157, R158). -/
def State.enterSafe (s : State) : State :=
  let kept := if s.output.card = .freeze then s.output.shown.filter fun r => r.chart.isSome else none
  ((s.withOutput { s.output with freeze := kept }).raise .safeEntered).refill

/-- Safe is left: SAFE_LEFT is raised and the freeze record emptied (R157). -/
def State.leaveSafe (s : State) : State :=
  ((s.withOutput { s.output with freeze := none }).raise .safeLeft).refillIfDormant

/-- The entry or leaving of safe, given whether safe held before the event (R157). -/
def State.safeChanged (s : State) (before : Bool) : State :=
  if s.safeHolds then (if before then s else s.enterSafe)
  else (if before then s.leaveSafe else s)

/-- SAFE_LINE_CHANGE (R157). While the RESET line is asserted the change is not taken; the line's level is
read at the release (R185). -/
def execSafeLineChange (asserted : Bool) (s : State) : Host.Outcome State Fault Refusal :=
  let s₁ := { s with safeLine := asserted }
  .next (if s.resetLine then s₁ else s₁.safeChanged s.safeHolds)

/-- SAFE_SET (R159). -/
def safeSet (flag : Nat) (card : Option Nat) (s : State) : State × Answer :=
  match onOffOfCode flag with
  | none => (s, refuse .badLength)
  | some on =>
    if !(card.all fun c => (cardOfCode c).isSome) then (s, refuse .badLength)
    else
      let choice := (card.bind cardOfCode).getD s.output.card
      let s₁ := (s.withOutput { s.output with card := choice, safeSet := on }).safeChanged s.safeHolds
      (s₁, { outcome := .done,
             fields := flagField s₁.output.safeSet ++ flagField s₁.safeLine ++ flagField s₁.safeHolds
               ++ codeField (cardCode s₁.output.card) })

def execSafeSet (flag : Nat) (card : Option Nat) (s : State) : Host.Outcome State Fault Refusal :=
  unlessFrozen s (respond .pp (safeSet flag card s))

/-- The line-up flag set: only an event that changes it chooses the fill in DORMANT (R155). -/
def State.setLineup (s : State) (on : Bool) : State :=
  if on = s.output.lineup then s else (s.withOutput { s.output with lineup := on }).refillIfDormant

/-- LINEUP (R160). -/
def lineup (flag : Nat) (s : State) : State × Answer :=
  match onOffOfCode flag with
  | none => (s, refuse .badLength)
  | some on =>
    if on ∧ s.output.mode = .onAir then (s, refuse .onAir)
    else
      (s.setLineup on, { outcome := .done, fields := flagField on })

def execLineup (flag : Nat) (s : State) : Host.Outcome State Fault Refusal :=
  unlessFrozen s (respond .pp (lineup flag s))

/-! ### Reading the chart (7.6) -/

/-- A cell entry of a reply: the cell result of R67 and its wind-evaluated flag. -/
def cellFields (c : CellResult) : List Field :=
  numField c.col ++ numField c.row ++ numField c.area ++ flagField c.land
    ++ optField (fun w => [Field.num w.u, Field.num w.v]) c.wind ++ optField numField c.speed
    ++ optField (fun d => codeField (directionCode d)) c.direction ++ optField numField c.rawForce
    ++ optField numField c.shownForce ++ optField (fun h => [Field.num h]) c.tideHeight
    ++ optField numField c.tideBand ++ optField numField c.shownTide
    ++ optField (fun t => codeField (trendCode t)) c.trend ++ flagField c.windEvaluated

/-- The chart of the Shown Frame Record; none while it is empty or holds an empty-page record. -/
def shownChart (s : State) : Option RecordChart := s.output.shown.bind fun r => r.chart

/-- The frame number of the Shown Frame Record, which an empty-page record has too; absent while it is empty
(R148, log entry 46). -/
def shownFrameField (s : State) : List Field := optField (fun r => longField r.frame) s.output.shown

/-- The page number, hours, weight, detail level and marks of a record (R161). -/
def recordHeadFields (x : RecordChart) : List Field :=
  numField x.page ++ optField numField x.hourA ++ optField numField x.hourB
    ++ numField x.weight ++ numField x.level ++ flagField x.feedMark ++ flagField x.noData
    ++ flagField x.coastPending ++ flagField x.ended

/-- The entry of a record for a cell, if it holds one. -/
def recordCell (x : Option RecordChart) (col row : Nat) : Option CellResult :=
  x.bind fun y => y.cells.find? fun c => c.col = col && c.row = row

/-- CELL_READ (R161): an empty Shown Frame Record is reported by its absent frame number, an empty-page record by
its frame number with the rest of the head absent (log entry 46). -/
def cellRead (row firstCol count : Nat) (s : State) : State × Answer :=
  if count < 1 ∨ 96 < count then (s, refuse .badLength)
  else
    let x := shownChart s
    (s, { outcome := .done,
          fields := shownFrameField s ++ optField recordHeadFields x
            ++ listField (fun n => optField cellFields (recordCell x (firstCol + n) row)) (List.range count) })

def execCellRead (p : Port) (row firstCol count : Nat) (s : State) : Host.Outcome State Fault Refusal :=
  unlessFrozen s (respond p (cellRead row firstCol count s))

/-- An area of AREA_READ: its summary, its highlight and its warned flag (R162). -/
def areaFields (x : AreaSummary × Bool) : List Field :=
  optField numField x.1.maxBand ++ numField x.1.windCells ++ flagField x.1.warned
    ++ flagField x.2 ++ flagField x.1.warned

/-- The summary of an area without wind and without a warning. -/
def emptySummary : AreaSummary := { maxBand := none, windCells := 0, warned := false }

/-- AREA_READ (R162, log entry 46). -/
def areaRead (s : State) : State × Answer :=
  let x := shownChart s
  let areas := match x with
    | some y => y.summaries.zip y.highlights
    | none => areaNumbers.map fun _ => (emptySummary, false)
  (s, { outcome := .done,
        fields := shownFrameField s ++ optField (fun y => numField y.page.val) x ++ listField areaFields areas })

def execAreaRead (p : Port) (s : State) : Host.Outcome State Fault Refusal :=
  unlessFrozen s (respond p (areaRead s))

end Sys2Proof.Machine
end

