-- ==== Sys2Proof/Machine/Timing.lean ====
section
/-! DEFINITION. Frame Timing (6.1): the lock states, the frame starts, REFERENCE_SET and TIMING_READ. A
frame start drives the Sequencer and the Output Stage as one event. -/

namespace Sys2Proof.Machine

def State.withTiming (s : State) (x : FrameTiming) : State := { s with timing := x }

/-! ### Frame starts -/

/-- The frame start at time `t`: the frame count, the Sequencer and the Output Stage (R124, R136, R155). -/
def State.frameStart (s : State) (t : Nat) : State :=
  (s.withTiming { s.timing with
    frameCount := (s.timing.frameCount + 1) % 4294967296
    lastFrameStart := some t
    started := true }).sequence.outputFrame

/-- The internal frame start due at `d`, with the next one scheduled; in HOLDOVER the 250th makes the lock
state FREE_RUN (R126, R131). -/
def State.internalFrameStart (s : State) (d : Nat) : State :=
  let x := s.timing
  let nominal := nominalPeriod x.rate
  let s₁ := s.at d
  if x.lock = .holdover then
    if 250 ≤ x.holdover + 1 then
      ((s₁.withTiming { x with lock := .freeRun, holdover := 0, nextDue := some (d + nominal) }).raise
        .freeRun).frameStart d
    else (s₁.withTiming { x with holdover := x.holdover + 1, nextDue := some (d + x.measured) }).frameStart d
  else (s₁.withTiming { x with nextDue := some (d + nominal) }).frameStart d

/-- A frame start whose due time has already passed at a change of period is made at once (R126). -/
def State.makeOverdue (s : State) : State :=
  match s.timing.nextDue with
  | some d =>
    if d < s.now then
      (s.withTiming { s.timing with nextDue := some (s.now + nominalPeriod s.timing.rate) }).frameStart s.now
    else s
  | none => s

/-- The time one nominal period after the last frame start, or after the present when none has been made
since Frame Timing last started (R126, R133). -/
def State.duePeriodAfterLast (s : State) (r : Rate) : Nat :=
  match s.timing.lastFrameStart with
  | some f => if s.timing.started then f + nominalPeriod r else s.now + nominalPeriod r
  | none => s.now + nominalPeriod r

/-- INTERNAL_FRAME_START (R126): with none due there is none to make (log entry 2). -/
def execInternalFrameStart (s : State) : Host.Outcome State Fault Refusal :=
  unlessFrozen s <|
    match s.timing.nextDue with
    | some d => s.internalFrameStart d
    | none => s

/-- HOLDOVER_END (R131): the internal frame start that is the 250th of the holdover (log entry 8). -/
def execHoldoverEnd (s : State) : Host.Outcome State Fault Refusal :=
  unlessFrozen s <|
    match s.timing.nextDue with
    | some d => if s.timing.lock = .holdover ∧ s.timing.holdover = 249 then s.internalFrameStart d else s
    | none => s

/-! ### Pulses (R125 to R131) -/

/-- The pulse that makes the lock state LOCKED, with the runt suppression (R128). -/
def State.lockingPulse (s : State) (d : Nat) : State :=
  let x := s.timing
  let s₁ := (s.withTiming { x with
    lock := .locked, measured := d, goodIntervals := x.goodIntervals + 1, lastPulse := some s.now,
    nextDue := none }).raise .refLocked
  if x.lastFrameStart.any fun f => s.now - f < halfPeriod x.rate then
    s₁.withTiming { s₁.timing with runts := sat16 (x.runts + 1) }
  else s₁.frameStart s.now

/-- A pulse at the present time in ACQUIRING, with its interval (R127). -/
def State.acquiringPulse (s : State) (d : Nat) : State :=
  let x := s.timing
  if goodInterval x.rate d then
    if 8 ≤ x.goodIntervals + 1 then s.lockingPulse d
    else s.withTiming { x with
      measured := d, goodIntervals := x.goodIntervals + 1, lastPulse := some s.now }
  else s.withTiming { x with goodIntervals := 0, lastPulse := some s.now }

/-- A pulse at the present time in LOCKED, with the time since the last accepted pulse (R129). -/
def State.lockedPulse (s : State) (d : Nat) : State :=
  let x := s.timing
  if d < halfPeriod x.rate then s.withTiming { x with glitches := sat16 (x.glitches + 1) }
  else
    (s.withTiming { x with
      lastPulse := some s.now
      measured := if goodInterval x.rate d then d else x.measured }).frameStart s.now

/-- A pulse that begins a measurement: ACQUIRING with the good-interval count at 0 (R126, R131). -/
def State.firstPulse (s : State) : State :=
  s.withTiming { s.timing with lock := .acquiring, goodIntervals := 0, holdover := 0, lastPulse := some s.now }

/-- A pulse at the present time outside DORMANT, judged by the lock state (R125). -/
def State.pulse (s : State) : State :=
  let x := s.timing
  match x.lock with
  | .freeRun => s.firstPulse
  | .acquiring =>
    match x.lastPulse with
    | some l => s.acquiringPulse (s.now - l)
    | none => s.firstPulse
  | .locked =>
    match x.lastPulse with
    | some l => s.lockedPulse (s.now - l)
    | none => (s.withTiming { x with lastPulse := some s.now }).frameStart s.now
  | .holdover =>
    let s₁ := s.firstPulse
    (s₁.withTiming { s₁.timing with nextDue := some (s.duePeriodAfterLast x.rate) }).makeOverdue

/-! ### Silences (R127, R130) -/

/-- The time at which one and a half periods have passed since the last pulse taken. -/
def State.silenceTime (s : State) : Nat :=
  match s.timing.lastPulse with
  | some l => l + oneAndHalfPeriods s.timing.rate
  | none => s.now

/-- ACQUIRING_SILENCE_EXPIRY (R127). -/
def execAcquiringSilenceExpiry (s : State) : Host.Outcome State Fault Refusal :=
  unlessFrozen s <|
    if s.timing.lock = .acquiring then
      ((s.at s.silenceTime).withTiming { s.timing with lock := .freeRun, goodIntervals := 0 }).raise .freeRun
    else s

/-- REF_LOST (R130). -/
def execRefLost (s : State) : Host.Outcome State Fault Refusal :=
  unlessFrozen s <|
    if s.timing.lock = .locked then
      let t := s.silenceTime
      (((s.at t).withTiming { s.timing with
        lock := .holdover, holdover := 1, nextDue := some (t + s.timing.measured) }).raise
          .refLost).frameStart t
    else s

/-! ### The governor's named frame starts (R153, log entry 8) -/

/-- A frame start is made now or by a pulse at `t`: the internal one that is due, or that of an accepted
pulse in LOCKED; none where neither is made. -/
def State.nextFrameStart (s : State) (t : Nat) : Option State :=
  if s.timing.lock = .locked then
    match s.timing.lastPulse with
    | some l =>
      if (s.at t).now - l < halfPeriod s.timing.rate then none else some (s.at t).pulse
    | none => none
  else s.timing.nextDue.map s.internalFrameStart

/-- The frame start would be the third late outcome of the late window. -/
def State.thirdLate (s : State) : Bool :=
  s.output.mode.animates && s.composer.composition.isSome
    && decide (3 ≤ lateCount (pushOutcome s.composer.governor.window .late))

/-- The frame start would bring the on-time run to 250. -/
def State.run250 (s : State) : Bool :=
  s.output.mode.animates && s.composer.composition.isNone && decide (250 ≤ s.composer.governor.run + 1)

/-- LATE_FRAMES (R153): the frame start whose late outcome is the third of the late window. -/
def execLateFrames (t : Nat) (s : State) : Host.Outcome State Fault Refusal :=
  unlessFrozen s (if s.thirdLate then (s.nextFrameStart t).getD s else s)

/-- DETAIL_RECOVERED (R153): the frame start whose on-time outcome brings the run to 250. -/
def execDetailRecovered (t : Nat) (s : State) : Host.Outcome State Fault Refusal :=
  unlessFrozen s (if s.run250 then (s.nextFrameStart t).getD s else s)

/-! ### REFERENCE_SET and TIMING_READ -/

/-- A pulse has been taken within one and a half of the new periods before the present (R133). -/
def State.recentPulse (s : State) (r : Rate) : Bool :=
  s.timing.lastPulse.any fun l => s.now - l ≤ oneAndHalfPeriods r

/-- The settings of REFERENCE_SET (R133). -/
def State.setReference (s : State) (r : Rate) : State :=
  let x := { s.timing with rate := r, measured := nominalPeriod r, goodIntervals := 0, holdover := 0 }
  if s.output.mode = .dormant then s.withTiming x
  else
    (s.withTiming { x with
      lock := if s.recentPulse r then .acquiring else .freeRun
      nextDue := some (s.duePeriodAfterLast r) }).makeOverdue

/-- REFERENCE_SET (R133). -/
def referenceSet (rate : Nat) (s : State) : State × Answer :=
  match rateOfCode rate with
  | none => (s, refuse .badLength)
  | some r =>
    let s₁ := s.setReference r
    (s₁, { outcome := .done,
           fields := codeField (rateCode r) ++ codeField (lockShownCode (lockShown s₁)) })

def execReferenceSet (rate t : Nat) (s : State) : Host.Outcome State Fault Refusal :=
  unlessFrozen s (respond .pp (referenceSet rate (s.at t)))

/-- The lock state, or an indication that Frame Timing is stopped (R135). -/
def runningLock (s : State) : Option LockShown :=
  if lockShown s = .stopped then none else some (lockShown s)

/-- The reply of TIMING_READ (R135). -/
def timingReadFields (s : State) : List Field :=
  let x := s.timing
  optField (fun l => codeField (lockShownCode l)) (runningLock s)
    ++ codeField (rateCode x.rate) ++ longField (nominalPeriod x.rate) ++ longField x.measured
    ++ numField x.goodIntervals ++ numField x.holdover ++ numField x.glitches ++ numField x.runts
    ++ optField (fun l => longField (sat24 (s.now - l))) x.lastPulse
    ++ optField (fun f => longField (s.now - f)) x.lastFrameStart
    ++ longField x.frameCount ++ longField x.seconds

/-- TIMING_READ (R135). -/
def timingRead (s : State) : State × Answer := (s, { outcome := .done, fields := timingReadFields s })

def execTimingRead (t : Nat) (s : State) : Host.Outcome State Fault Refusal :=
  unlessFrozen s (respond .pp (timingRead (s.at t)))

end Sys2Proof.Machine
end

