-- ==== Sys2Proof/Machine/Modes.lean ====
section
/-! DEFINITION. Operating modes and reset (Chapter 10): OUTPUT_MODE, DORMANT and waking, the FREF pulse,
power-on, the RESET line, and PLAYOUT_RESET. -/

namespace Sys2Proof.Machine

/-! ### DORMANT (R134, R184) -/

/-- Frame Timing stops (R134). -/
def FrameTiming.stopped (x : FrameTiming) : FrameTiming :=
  { x with lock := .freeRun, goodIntervals := 0, holdover := 0, nextDue := none }

/-- Frame Timing starts in FREE_RUN at the nominal period (R134). -/
def FrameTiming.startedAt (x : FrameTiming) (t : Nat) : FrameTiming :=
  { x with lock := .freeRun, nextDue := some (t + nominalPeriod x.rate), started := false }

/-- Entry to DORMANT (R184). -/
def State.enterDormant (s : State) : State :=
  ((s.withTiming s.timing.stopped).withOutput { s.output with mode := .dormant }).refillKeyed

/-- Leaving DORMANT for a mode (R184): Frame Timing starts, the Assembler takes the head entry, the fill
and key are chosen. -/
def State.leaveDormant (s : State) (m : Mode) : State :=
  (((s.withTiming (s.timing.startedAt s.now)).withOutput
    { s.output with mode := m, lineup := s.output.lineup && decide (m ≠ .onAir) }).takeHead).refillKeyed

/-- A change of mode (R183); the line-up flag becomes OFF into ON_AIR (R160). -/
def State.changeMode (s : State) (m : Mode) : State :=
  if m = s.output.mode then s
  else if m = .dormant then s.enterDormant
  else if s.output.mode = .dormant then s.leaveDormant m
  else s.withOutput { s.output with mode := m, lineup := s.output.lineup && decide (m ≠ .onAir) }

/-- OUTPUT_MODE (R183). -/
def outputMode (mode : Nat) (s : State) : State × Answer :=
  match modeOfCode mode with
  | none => (s, refuse .badLength)
  | some m =>
    let s₁ := s.changeMode m
    (s₁, { outcome := .done,
           fields := codeField (modeCode s₁.output.mode) ++ codeField (lockShownCode (lockShown s₁)) })

def execOutputMode (mode t : Nat) (s : State) : Host.Outcome State Fault Refusal :=
  unlessFrozen s (respond .pp (outputMode mode (s.at t)))

/-- A pulse taken while DORMANT wakes the generator into STANDBY and is not measured (R184, log entry 13). -/
def State.wakingPulse (s : State) : State :=
  (s.withTiming { s.timing with lastPulse := some s.now }).leaveDormant .standby

/-- FREF_PULSE (R125, R184). -/
def execFrefPulse (t : Nat) (s : State) : Host.Outcome State Fault Refusal :=
  unlessFrozen s <|
    if s.output.mode = .dormant then (s.at t).wakingPulse else (s.at t).pulse

/-! ### Power-on and the RESET line (10.3) -/

/-- The restart of R186: every block at its initial value, the cause recorded, the SAFE line read. The
clock, the levels of the lines and the queue of commands are outside the blocks. -/
def State.restart (s : State) (cause : ResetCause) : State :=
  { now := s.now, resetLine := false, powerOnHeld := false, safeLine := s.safeLine, cause := cause,
    ports := Ports.initial, field := FieldStore.initial, ingest := Ingest.initial,
    feed := FeedMonitor.initial, coast := CoastStore.initial, areaMap := none,
    ctl := ShowController.initial, timing := FrameTiming.initial s.now, eval := Evaluator.initial,
    composer := Composer.initial, output := OutputStage.initial s.safeLine, pending := s.pending }

/-- POWER_ON (R186): with the RESET line asserted, power-on is taken at its release. -/
def execPowerOn (t : Nat) (s : State) : Host.Outcome State Fault Refusal :=
  .next <|
    if s.resetLine then { (s.at t) with powerOnHeld := true } else (s.at t).restart .powerOn

/-- RESET_LINE_ASSERTION (R185): a reply being sent is cut off, the fill and the key carry nothing. -/
def execResetLineAssertion (s : State) : Host.Outcome State Fault Refusal :=
  unlessFrozen s
    { s with
      resetLine := true
      ports := s.ports.map fun x => { x with serving := none }
      output := { s.output with fill := .transparent, key := .nothing } }

/-- RESET_LINE_RELEASE (R186): with the line not asserted there is no release (log entry 2). -/
def execResetLineRelease (t : Nat) (s : State) : Host.Outcome State Fault Refusal :=
  .next <|
    if s.resetLine then (s.at t).restart (if s.powerOnHeld then .powerOn else .resetLine) else s

/-! ### PLAYOUT_RESET (10.4) -/

/-- Frame Timing's part of PLAYOUT_RESET (R134): in DORMANT the counts only. -/
def State.resetTiming (s : State) : State :=
  let x := s.timing
  let counts := { x with goodIntervals := 0, holdover := 0, glitches := 0, runts := 0 }
  if s.output.mode = .dormant then s.withTiming counts
  else
    let y := { counts with lock := .freeRun, measured := nominalPeriod x.rate, lastPulse := none }
    if x.lock = .locked ∨ x.lock = .holdover then
      (s.withTiming { y with nextDue := some (s.duePeriodAfterLast x.rate) }).makeOverdue
    else s.withTiming y

/-- The settings of the Output Stage after PLAYOUT_RESET, with the leaving of safe where turning SAFE_SET
OFF leaves it (R154, R187). In DORMANT the fill is chosen only where safe or the line-up flag changes (R155). -/
def State.resetOutput (s : State) : State :=
  ((s.withOutput { s.output with safeSet := false, card := .still }).safeChanged s.safeHolds).setLineup false

/-- PLAYOUT_RESET (R187): the notice record is cleared first within the event (R175). A frame start made at once
(R134) comes after the zeroing, the model's choice of order (log entry 44). -/
def playoutReset (s : State) : State × Answer :=
  let s₁ := s.resetPort .pp
  let s₂ := s₁.withComposer { s₁.composer with
    governor := Governor.initial, late := 0, lateFrames := 0, dropped := 0 }
  (s₂.resetOutput.resetTiming, { outcome := .done, fields := [] })

def execPlayoutReset (t : Nat) (s : State) : Host.Outcome State Fault Refusal :=
  unlessFrozen s (respond .pp (playoutReset (s.at t)))

end Sys2Proof.Machine
end

