-- ==== Sys2Proof/Machine/Notices.lean ====
section
/-! DEFINITION. The requests of the Notice Unit (9.4): NOTICE_READ and NOTICE_MASK. -/

namespace Sys2Proof.Machine

/-- A mask in the order of R174's groups. -/
def maskFields (m : NoticeMask) : List Field := allGroups.flatMap fun g => codeField (settingCode (m.get g))

/-- The seventeen flags, then the group of each set flag with the setting the mask gives it (R178). -/
def noticeFields (r : NoticeRecord) (m : NoticeMask) : List Field :=
  (allNotices.flatMap fun e => flagField (r.get e))
    ++ listField (fun e => codeField (groupCode (noticeGroup e)) ++ codeField (settingCode (m.get (noticeGroup e))))
        (allNotices.filter r.get)

/-- NOTICE_READ on a port (R178): the flags as they stood before the clearing, and the mask in force. -/
def noticeRead (p : Port) (s : State) : State × Answer :=
  let x := s.ports.get p
  (s.modifyPort p fun y => { y with record := NoticeRecord.empty },
    { outcome := .done, fields := noticeFields x.record x.mask ++ maskFields x.mask })

def execNoticeRead (p : Port) (s : State) : Host.Outcome State Fault Refusal :=
  unlessFrozen s (respond p (noticeRead p s))

/-- The setting code a NOTICE_MASK carries for a group. -/
def maskCode (f : MaskFields) : Group → Option Nat
  | .feed => f.feed
  | .shows => f.shows
  | .alert => f.alert
  | .timing => f.timing
  | .output => f.output

/-- The setting a NOTICE_MASK carries for a group, if it carries one. -/
def maskSetting (f : MaskFields) (g : Group) : Option Setting := (maskCode f g).bind settingOfCode

/-- Every setting code present is OFF, ROUTINE or URGENT (R179). -/
def maskFit (f : MaskFields) : Bool :=
  allGroups.all fun g => (maskCode f g).all fun c => (settingOfCode c).isSome

/-- NOTICE_MASK on a port (R179). -/
def noticeMask (p : Port) (f : MaskFields) (s : State) : State × Answer :=
  if !maskFit f then (s, refuse .badLength)
  else
    let x := s.ports.get p
    let m := NoticeMask.ofFn fun g => (maskSetting f g).getD (x.mask.get g)
    (s.modifyPort p fun y =>
        { y with mask := m, record := y.record.clearGroups fun g => decide (maskSetting f g = some .off) },
      { outcome := .done, fields := maskFields m })

def execNoticeMask (p : Port) (f : MaskFields) (s : State) : Host.Outcome State Fault Refusal :=
  unlessFrozen s (respond p (noticeMask p f s))

end Sys2Proof.Machine
end

