-- ==== Sys2Proof/Machine/Links.lean ====
section
/-! DEFINITION. The control links (Chapter 8): STATUS_READ and TIMELINE_READ, the taking of a request at a
port, and the receiver's events. -/

namespace Sys2Proof.Machine

/-! ### Reading the generator (8.5) -/

/-- The reply of STATUS_READ on a port (R172). Whether a composition, a waiting snapshot or a completed record is there,
and its frame number, are one optional field each: the model's choice (log entry 48). -/
def statusFields (s : State) (p : Port) : List Field :=
  let x := s.ports.get p
  let c := s.composer
  codeField (causeCode s.cause) ++ flagField x.resetSeen
    ++ numField x.linkErrors ++ numField x.overruns
    ++ codeField (modeCode s.output.mode) ++ flagField s.safeLine ++ flagField s.output.safeSet
    ++ flagField s.safeHolds ++ codeField (cardCode s.output.card) ++ flagField s.output.lineup
    ++ codeField (lockShownCode (lockShown s)) ++ longField s.timing.frameCount
    ++ optField (fun y => longField y.snapshot.frame) c.composition
    ++ optField (fun y => longField y.frame) c.mailbox
    ++ optField (fun y => longField y.frame) c.completed
    ++ optField (fun y => longField y.frame) s.output.shown
    ++ numField c.late ++ numField c.lateFrames ++ numField c.dropped
    ++ numField c.governor.level ++ numField c.governor.window.length
    ++ numField (lateCount c.governor.window) ++ numField c.governor.run
    ++ codeField (feedStateCode s.feed.state) ++ numField s.ingest.queue.length
    ++ codeField (loadStateCode s.ingest.load)
    ++ codeField (if s.field.grid.isSome then 1 else 0)
    ++ numField ((List.finRange 16).filter fun i => (s.field.slot i).state = .ready).length

/-- STATUS_READ on a port: its reset-seen flag is cleared, and reported as it stood (R171, R172). -/
def statusRead (p : Port) (s : State) : State × Answer :=
  (s.modifyPort p fun x => { x with resetSeen := false }, { outcome := .done, fields := statusFields s p })

def execStatusRead (p : Port) (s : State) : Host.Outcome State Fault Refusal :=
  unlessFrozen s (respond p (statusRead p s))

/-- An entry of the Timeline (R173). -/
def timelineEntry (f : FieldStore) (i : SlotId) : List Field :=
  numField i ++ numField (f.hourOf i) ++ numField (f.slot i).generation

/-- A slot of TIMELINE_READ (R173). -/
def slotFields (x : Slot) : List Field :=
  codeField (slotStateCode x.state) ++ optField numField x.hour
    ++ optField (fun y => codeField (fieldSetCode y)) x.fieldSet ++ numField x.generation ++ numField x.pins
    ++ numField x.loaded ++ listField numField x.warnings

/-- The reply of TIMELINE_READ (R16, R173). The columns and the rows are two fields that may be absent (R1, R164). -/
def timelineFields (s : State) : List Field :=
  codeField (if s.field.grid.isSome then 1 else 0)
    ++ optField (fun g => numField g.columns) s.field.grid ++ optField (fun g => numField g.rows) s.field.grid
    ++ listField (timelineEntry s.field) s.field.timeline
    ++ listField slotFields s.field.slots.toList
    ++ optField (fun l => numField l.slot.val) s.ingest.load

/-- TIMELINE_READ (R173). -/
def timelineRead (s : State) : State × Answer := (s, { outcome := .done, fields := timelineFields s })

def execTimelineRead (p : Port) (s : State) : Host.Outcome State Fault Refusal :=
  unlessFrozen s (respond p (timelineRead s))

/-! ### The taking of a request (8.2) -/

/-- A request handed to the block that owns it, taken on a port (R167). -/
def handle (p : Port) (r : Request) (s : State) : State × Answer :=
  match r with
  | .gridDefine c n => gridDefine c n s
  | .stepDrop h => stepDrop h s
  | .stepOpen h f ws => stepOpen h f ws s
  | .cellBlock r c n vs => cellBlock r c n vs s
  | .stepClose => stepClose s
  | .stepCancel => stepCancel s
  | .feedSettings f => feedSettings f s
  | .feedRead => feedRead s
  | .ingestReset => ingestReset s
  | .coastBegin => coastBegin s
  | .coastLineNew k c vs => coastLineNew k c vs s
  | .coastLineContinue vs => coastLineContinue vs s
  | .coastEnd => coastEnd s
  | .areaMapBegin c n => areaMapBegin c n s
  | .areaMapRow r c n es => areaMapRow r c n es s
  | .bandsWrite f => bandsWrite f s
  | .bandsRead => bandsRead s
  | .pageWrite n f => pageWrite n f s
  | .pageLayers m l => pageLayers m l s
  | .pageRead n => pageRead n s
  | .cue n h => cue n h s
  | .cueClear => cueClear s
  | .cueWithdraw => cueWithdraw s
  | .cueRead => cueRead s
  | .insert n => insert n s
  | .insertEnd => insertEnd s
  | .hold => hold s
  | .resume => resume s
  | .jump h => jump h s
  | .deskReset => deskReset s
  | .take => take s
  | .takeForce => takeForce s
  | .clear => clear s
  | .referenceSet c => referenceSet c s
  | .timingRead => timingRead s
  | .safeSet f c => safeSet f c s
  | .lineup f => lineup f s
  | .outputMode m => outputMode m s
  | .playoutReset => playoutReset s
  | .cellRead r c n => cellRead r c n s
  | .areaRead => areaRead s
  | .statusRead => statusRead p s
  | .timelineRead => timelineRead s
  | .noticeRead => noticeRead p s
  | .noticeMask f => noticeMask p f s

/-- A request taken at a port is checked for its kind, its port and its payload, in that order, and then
handed to its block (R167). -/
def takeFrame (p : Port) (f : LinkFrame) (s : State) : State × Answer :=
  match kindPorts f.kind.toNat with
  | none => (s, refuse .badKind)
  | some ps =>
    if p ∈ ps then
      match decodeRequest f.kind.toNat f.payload with
      | none => (s, refuse .badLength)
      | some r => handle p r s
    else (s, refuse .wrongPort)

/-- The kind of a reply: the request's with 0x80 added when it is below 0x80, and unchanged otherwise
(R168). -/
def replyKind (k : Octet) : Octet := if k.toNat < 0x80 then k + 0x80#8 else k

/-- A frame is taken: the request's effects, its reply formed, and the port serving it (R166, R168). -/
def State.serve (s : State) (p : Port) (f : LinkFrame) : State :=
  let r := takeFrame p f s
  (respond p r).modifyPort p fun x =>
    { x with serving := some { kind := replyKind f.kind, tag := f.tag, reply := replyOf p r } }

/-- A bad-check frame: the link error count increments, and on the Ingest Port it is an errored record
(R165, R37). -/
def State.badCheck (s : State) (p : Port) : State :=
  let s₁ := s.modifyPort p fun x => { x with linkErrors := sat16 (x.linkErrors + 1) }
  if p = .ip then s₁.erroredRecord else s₁

/-- A good-check frame: on the Ingest Port it restarts the stale timer; it is taken at once by an idle port
with an empty buffer, and buffered otherwise (R40, R165, R166). -/
def State.goodFrame (s : State) (p : Port) (f : LinkFrame) : State :=
  let s₁ := if p = .ip then s.goodIngestFrame else s
  let x := s₁.ports.get p
  if x.serving.isNone ∧ x.buffer = [] then s₁.serve p f
  else s₁.modifyPort p fun y => { y with buffer := y.buffer ++ [f] }

/-- A frame received whole at a port (R165, R166); a payload longer than a length field allows is a framing
error (log entry 30). -/
def State.receive (s : State) (p : Port) (f : LinkFrame) : State :=
  let s₁ := s.modifyPort p fun x => { x with receiver := .hunting }
  if 1018 < f.payload.length then s₁.badCheck p
  else if 2 ≤ (s₁.ports.get p).buffer.length then
    s₁.modifyPort p fun x => { x with overruns := sat16 (x.overruns + 1) }
  else if f.check = frameCheck f.kind f.tag f.payload then s₁.goodFrame p f
  else s₁.badCheck p

/-- LINK_FRAME_RECEIVED (R166). -/
def execLinkFrameReceived (p : Port) (f : LinkFrame) (t : Nat) (s : State) :
    Host.Outcome State Fault Refusal :=
  unlessFrozen s ((s.at t).receive p f)

/-- START_OCTET (R165): to a receiver that is receiving it is ordinary data. -/
def execStartOctet (p : Port) (s : State) : Host.Outcome State Fault Refusal :=
  unlessFrozen s (s.modifyPort p fun x => { x with receiver := .receiving })

/-- A receiver that hunts through octets already read: one of value 0xC3 starts a frame (R165). -/
def huntThrough (os : List Octet) : Receiver := if 0xC3#8 ∈ os then .receiving else .hunting

/-- An incomplete frame is abandoned: a bad-check frame, and the receiver hunts through the octets that it reads
again (R165). -/
def State.abandonFrame (s : State) (p : Port) (again : List Octet) : State :=
  if (s.ports.get p).receiver = .receiving then
    (s.modifyPort p fun x => { x with receiver := huntThrough again }).badCheck p
  else s

/-- FRAMING_ERROR (R165): the length field of the frame being received; one in 2..1020 is no error. The receiver
hunts again from the octet after the start octet, so through the two length octets (log entry 29). -/
def execFramingError (p : Port) (len : Nat) (s : State) : Host.Outcome State Fault Refusal :=
  unlessFrozen s (if len < 2 ∨ 1020 < len then s.abandonFrame p (numOctets len) else s)

/-- FRAME_GAP_TIMEOUT (R165): the receiver hunts again from the next octet to arrive. -/
def execFrameGapTimeout (p : Port) (s : State) : Host.Outcome State Fault Refusal :=
  unlessFrozen s (s.abandonFrame p [])

/-- The last octet of a reply has been sent: the oldest buffered frame is taken, or the port becomes idle
(R166). -/
def State.endReply (s : State) (p : Port) : State :=
  let x := s.ports.get p
  match x.serving, x.buffer with
  | none, _ => s
  | some _, [] => s.modifyPort p fun y => { y with serving := none }
  | some _, f :: rest => (s.modifyPort p fun y => { y with buffer := rest }).serve p f

/-- REPLY_SENT (R166): with no reply being sent there is none to end (log entry 2). -/
def execReplySent (p : Port) (t : Nat) (s : State) : Host.Outcome State Fault Refusal :=
  unlessFrozen s ((s.at t).endReply p)

end Sys2Proof.Machine
end

