-- ==== Sys2Proof/Machine/Dispatch.lean ====
section
/-! DEFINITION. The dispatch of a command to its meaning: one arm per row of the opcode table. -/

namespace Sys2Proof.Machine

def exec (i : Instr) (s : State) : Host.Outcome State Fault Refusal :=
  match i with
  | .powerOn t => Sys2Proof.Machine.execPowerOn t s
  | .resetLineAssertion => Sys2Proof.Machine.execResetLineAssertion s
  | .resetLineRelease t => Sys2Proof.Machine.execResetLineRelease t s
  | .linkFrameReceived p f t => Sys2Proof.Machine.execLinkFrameReceived p f t s
  | .framingError p len => Sys2Proof.Machine.execFramingError p len s
  | .frameGapTimeout p => Sys2Proof.Machine.execFrameGapTimeout p s
  | .replySent p t => Sys2Proof.Machine.execReplySent p t s
  | .gridDefine columns rows => Sys2Proof.Machine.execGridDefine columns rows s
  | .stepDrop hour => Sys2Proof.Machine.execStepDrop hour s
  | .stepOpen hour fieldSet warnings => Sys2Proof.Machine.execStepOpen hour fieldSet warnings s
  | .cellBlock row firstCol count values => Sys2Proof.Machine.execCellBlock row firstCol count values s
  | .stepClose => Sys2Proof.Machine.execStepClose s
  | .stepCancel => Sys2Proof.Machine.execStepCancel s
  | .feedSettings f => Sys2Proof.Machine.execFeedSettings f s
  | .feedRead => Sys2Proof.Machine.execFeedRead s
  | .ingestReset => Sys2Proof.Machine.execIngestReset s
  | .drainCompletion => Sys2Proof.Machine.execDrainCompletion s
  | .windowEnd => Sys2Proof.Machine.execWindowEnd s
  | .staleTimerExpiry => Sys2Proof.Machine.execStaleTimerExpiry s
  | .coastBegin => Sys2Proof.Machine.execCoastBegin s
  | .coastLineNew kind closed vertices => Sys2Proof.Machine.execCoastLineNew kind closed vertices s
  | .coastLineContinue vertices => Sys2Proof.Machine.execCoastLineContinue vertices s
  | .coastEnd => Sys2Proof.Machine.execCoastEnd s
  | .areaMapBegin columns rows => Sys2Proof.Machine.execAreaMapBegin columns rows s
  | .areaMapRow row firstCol count entries => Sys2Proof.Machine.execAreaMapRow row firstCol count entries s
  | .windowCutCompletion place => Sys2Proof.Machine.execWindowCutCompletion place s
  | .bandsWrite f => Sys2Proof.Machine.execBandsWrite f s
  | .bandsRead => Sys2Proof.Machine.execBandsRead s
  | .pageWrite page f => Sys2Proof.Machine.execPageWrite page f s
  | .pageLayers mask layers => Sys2Proof.Machine.execPageLayers mask layers s
  | .pageRead page => Sys2Proof.Machine.execPageRead page s
  | .cue page start => Sys2Proof.Machine.execCue page start s
  | .cueClear => Sys2Proof.Machine.execCueClear s
  | .cueWithdraw => Sys2Proof.Machine.execCueWithdraw s
  | .cueRead => Sys2Proof.Machine.execCueRead s
  | .insert page => Sys2Proof.Machine.execInsert page s
  | .insertEnd => Sys2Proof.Machine.execInsertEnd s
  | .hold => Sys2Proof.Machine.execHold s
  | .resume => Sys2Proof.Machine.execResume s
  | .jump hour => Sys2Proof.Machine.execJump hour s
  | .deskReset => Sys2Proof.Machine.execDeskReset s
  | .take => Sys2Proof.Machine.execTake s
  | .takeForce => Sys2Proof.Machine.execTakeForce s
  | .clear => Sys2Proof.Machine.execClear s
  | .referenceSet rate t => Sys2Proof.Machine.execReferenceSet rate t s
  | .timingRead t => Sys2Proof.Machine.execTimingRead t s
  | .safeSet flag card => Sys2Proof.Machine.execSafeSet flag card s
  | .lineup flag => Sys2Proof.Machine.execLineup flag s
  | .outputMode mode t => Sys2Proof.Machine.execOutputMode mode t s
  | .playoutReset t => Sys2Proof.Machine.execPlayoutReset t s
  | .cellRead p row firstCol count => Sys2Proof.Machine.execCellRead p row firstCol count s
  | .areaRead p => Sys2Proof.Machine.execAreaRead p s
  | .statusRead p => Sys2Proof.Machine.execStatusRead p s
  | .timelineRead p => Sys2Proof.Machine.execTimelineRead p s
  | .noticeRead p => Sys2Proof.Machine.execNoticeRead p s
  | .noticeMask p f => Sys2Proof.Machine.execNoticeMask p f s
  | .frefPulse t => Sys2Proof.Machine.execFrefPulse t s
  | .internalFrameStart => Sys2Proof.Machine.execInternalFrameStart s
  | .acquiringSilenceExpiry => Sys2Proof.Machine.execAcquiringSilenceExpiry s
  | .refLost => Sys2Proof.Machine.execRefLost s
  | .holdoverEnd => Sys2Proof.Machine.execHoldoverEnd s
  | .lateFrames t => Sys2Proof.Machine.execLateFrames t s
  | .detailRecovered t => Sys2Proof.Machine.execDetailRecovered t s
  | .compositionCompletion => Sys2Proof.Machine.execCompositionCompletion s
  | .safeLineChange asserted => Sys2Proof.Machine.execSafeLineChange asserted s
  | .startOctet p => Sys2Proof.Machine.execStartOctet p s

end Sys2Proof.Machine
end

