-- ==== Sys2Proof/Safety.lean ====
section
/-! DEFINITION. What a sound state is: the relations between the fields of `State` that the rules say
always hold, one structure for each block, each kept by every step. -/

namespace Sys2Proof.Machine

/-! ### The holders of pins (R15) -/

/-- The references an optional context holds. -/
def contextRefs (x : Option Context) : List SlotRef := x.elim [] Context.refs

/-- Every reference held: by LIVE, NEXT, the stacked contexts, the waiting snapshot and the composition in
progress (R15). -/
def State.references (s : State) : List SlotRef :=
  contextRefs s.ctl.live ++ contextRefs s.ctl.next ++ s.ctl.stack.flatMap contextRefs
    ++ s.composer.mailbox.elim [] Snapshot.refs
    ++ s.composer.composition.elim [] fun x => x.snapshot.refs

/-- The references to one slot. -/
def State.referencesTo (s : State) (i : SlotId) : Nat := (s.references.filter fun r => r.slot = i).length

/-! ### The Field Store and the Timeline (Chapter 1) -/

/-- The slots, their states and pins, the Timeline and the references agree (R4, R5, R7, R10, R15, R16). -/
structure State.FieldSound (s : State) : Prop where
  /-- R10: the Timeline holds exactly the READY slots. -/
  ready : ∀ i, (s.field.slot i).state = .ready ↔ i ∈ s.field.timeline
  /-- R10: strictly ascending valid hour. -/
  ascending : s.field.timeline.Pairwise fun i j => s.field.hourOf i < s.field.hourOf j
  /-- R7: the LOADING slot is the one the open-load record names. -/
  loading : ∀ i, (s.field.slot i).state = .loading ↔ ∃ l, s.ingest.load = some l ∧ l.slot = i
  /-- R4: a FREE slot holds nothing but its generation. -/
  free : ∀ i, (s.field.slot i).state = .free → s.field.slot i = (s.field.slot i).freed
  /-- R4: a slot that is not FREE has a valid hour 0..240 and a field set. -/
  hour : ∀ i, (s.field.slot i).state ≠ .free →
    (∃ h, (s.field.slot i).hour = some h ∧ h ≤ 240) ∧ (s.field.slot i).fieldSet.isSome = true
  /-- R23: the open-load record carries the hour and field set of its slot. -/
  load : ∀ l, s.ingest.load = some l →
    (s.field.slot l.slot).hour = some l.hour ∧ (s.field.slot l.slot).fieldSet = some l.fieldSet
  /-- R15: each pin count is the number of references held. -/
  pins : ∀ i, (s.field.slot i).pins = s.referencesTo i
  /-- R15: a RETIRING slot is pinned. -/
  retiring : ∀ i, (s.field.slot i).state = .retiring → 1 ≤ (s.field.slot i).pins
  /-- R16: a reference names a READY or RETIRING slot and carries its hour and generation. -/
  refs : ∀ r ∈ s.references,
    ((s.field.slot r.slot).state = .ready ∨ (s.field.slot r.slot).state = .retiring)
      ∧ (s.field.slot r.slot).hour = some r.hour ∧ (s.field.slot r.slot).generation = r.generation

/-- A cell value lies within the ranges of R6 and carries no part outside the field set. -/
def CellValue.allowed (fs : FieldSet) (c : CellValue) : Prop :=
  (∀ w, c.wind = some w → fs ≠ .tide ∧ -1500 ≤ w.u ∧ w.u ≤ 1500 ∧ -1500 ≤ w.v ∧ w.v ≤ 1500)
    ∧ ∀ h, c.tide = some h → fs ≠ .wind ∧ -1000 ≤ h ∧ h ≤ 2000

/-- The contents of the slots (R4, R6, R25). -/
structure State.CellsSound (s : State) : Prop where
  canonical : ∀ i, storeWf absentCell (s.field.slot i).cells
  /-- R6: the loaded-cell count is the number of cells with a part present. -/
  loaded : ∀ i, (s.field.slot i).loaded = (s.field.slot i).cells.length
  values : ∀ i fs, (s.field.slot i).fieldSet = some fs →
    ∀ e ∈ (s.field.slot i).cells, CellValue.allowed fs e.2
  /-- R4: 0 to 8 distinct area numbers, each 1..31. -/
  warnings : ∀ i, (s.field.slot i).warnings.length ≤ 8 ∧ (s.field.slot i).warnings.Nodup
    ∧ ∀ n ∈ (s.field.slot i).warnings, 1 ≤ n ∧ n ≤ 31
  /-- R4: a generation is 0..255. -/
  generation : ∀ i, (s.field.slot i).generation < 256

/-! ### Forecast ingest (Chapter 2) -/

/-- The open-load record, the Ingest Queue and the drain agree (R23, R28, R29, R34). -/
structure State.IngestSound (s : State) : Prop where
  clear : s.ingest.load = none → s.ingest.queue = [] ∧ s.ingest.inFlight = none
  opened : ∀ l, s.ingest.load = some l → l.phase = .opened → QueueEntry.close ∉ s.ingest.queue
  /-- R28: the close entry is the last. -/
  closing : ∀ l, s.ingest.load = some l → l.phase = .closing →
    ∃ bs, s.ingest.queue = bs ++ [QueueEntry.close] ∧ QueueEntry.close ∉ bs
  cancelling : ∀ l, s.ingest.load = some l → l.phase = .cancelling →
    s.ingest.queue = [] ∧ s.ingest.inFlight.isSome = true
  /-- R29: outside DORMANT an idle Assembler leaves no entry behind. -/
  idle : s.ingest.inFlight = none → s.output.mode ≠ .dormant → s.ingest.queue = []

/-- The Feed Monitor within its ranges (R37, R38, R40, R41, R42). -/
structure State.FeedSound (s : State) : Prop where
  counts : s.feed.windowCount ≤ 16777215 ∧ s.feed.lastWindow ≤ 16777215 ∧ s.feed.continuous ≤ 16777215
  target : s.feed.targetM ≤ 15 ∧ s.feed.targetE ≤ 15
  coverage : s.feed.coverageMin ≤ 100
  timeout : 10 ≤ s.feed.staleTimeout ∧ s.feed.staleTimeout ≤ 600
  /-- The window in progress has not passed its length (log entry 4). -/
  window : ∀ n, windowLength s.feed.window = some n → s.feed.elapsed ≤ n
  /-- R40: the timer never passes its timeout. -/
  timer : s.feed.staleSeconds ≤ s.feed.staleTimeout

/-! ### Coastlines and the sparse tables (Chapters 3 and 4) -/

/-- Polylines that occupy consecutive positions of the vertex array, from `n` up to `m` (R46). -/
def polylinesSpan : List Polyline → Nat → Nat → Prop
  | [], n, m => n = m
  | p :: ps, n, m => p.first = n ∧ polylinesSpan ps (n + p.count) m

/-- The coast store (R45, R46, R49). -/
structure State.CoastSound (s : State) : Prop where
  span : polylinesSpan s.coast.polylines 0 s.coast.vertices.length
  counts : ∀ p ∈ s.coast.polylines, 2 ≤ p.count ∧ p.count ≤ 1024
  vertices : s.coast.vertices.length ≤ 8192
  polylines : s.coast.polylines.length ≤ 512
  range : ∀ v ∈ s.coast.vertices, 0 ≤ v.x ∧ v.x ≤ 1535 ∧ 0 ≤ v.y ∧ v.y ≤ 1023
  /-- R49: the marked polyline is always the last, and only a load in progress has one. -/
  marker : ∀ i, s.coast.marker = some i → s.coast.state = .loading ∧ i + 1 = s.coast.polylines.length
  empty : s.coast.state = .empty → s.coast.vertices = [] ∧ s.coast.polylines = []

/-- The tables addressed by cell are in canonical form, the copies of a composition among them, and a
PRESENT Area Map has the dimensions of the grid (R51). -/
structure State.TablesSound (s : State) : Prop where
  glyphs : storeWf absentGlyph s.eval.glyphs
  map : ∀ m, s.areaMap = some m →
    storeWf seaCell m.cells ∧ s.field.grid = some { columns := m.columns, rows := m.rows }
  copies : ∀ x, s.composer.composition = some x →
    storeWf absentGlyph x.glyphs ∧ ∀ m, x.areaMap = some m → storeWf seaCell m.cells
  grid : ∀ g, s.field.grid = some g → 8 ≤ g.columns ∧ g.columns ≤ 96 ∧ 8 ≤ g.rows ∧ g.rows ≤ 64

/-- The thresholds and settings of BANDS_WRITE (R73, R80, R81, R89, R90). -/
structure BandSettings.Sound (b : BandSettings) : Prop where
  force : b.force.length = 12 ∧ b.force.Pairwise (· < ·) ∧ ∀ t ∈ b.force, 1 ≤ t ∧ t ≤ 2062
  tide : b.tide.length = 7 ∧ b.tide.Pairwise (· < ·) ∧ ∀ t ∈ b.tide, -1000 ≤ t ∧ t ≤ 2000
  hysteresis : b.forceHyst ≤ 50 ∧ b.tideHyst ≤ 50
  slack : b.slack ≤ 100
  galeBand : 1 ≤ b.galeBand ∧ b.galeBand ≤ 12

/-- The settings in force and the copy of the composition in progress (R64, R73). -/
def State.BandsSound (s : State) : Prop :=
  s.eval.bands.Sound ∧ ∀ x, s.composer.composition = some x → x.bands.Sound

/-! ### The show (Chapter 5) -/

/-- A page record within the ranges of R92. -/
structure Page.Sound (p : Page) : Prop where
  origin : p.originCol ≤ 95 ∧ p.originRow ≤ 63
  size : 4 ≤ p.width ∧ p.width ≤ 96 ∧ 4 ≤ p.height ∧ p.height ≤ 64
  stride : 1 ≤ p.stride ∧ p.stride ≤ 4
  hours : p.first ≤ p.last ∧ p.last ≤ 240
  frames : 1 ≤ p.framesPerStep ∧ p.framesPerStep ≤ 250
  start : ∀ h, p.start = some h → p.first ≤ h ∧ h ≤ p.last

/-- A context over a grid and a coast store (R55, R57, R96, R97, R98). -/
structure Context.Sound (g : Option Grid) (c : CoastStore) (x : Context) : Prop where
  copy : x.copy.Sound
  start : x.copy.first ≤ x.startUsed ∧ x.startUsed ≤ x.copy.last
  window : x.window = clampWindow g x.copy
  /-- R96: a starved context has no step b. -/
  starved : x.stepA = none → x.stepB = none
  /-- R98: hours outside the page's range are never used. -/
  hours : ∀ r ∈ x.refs, x.copy.first ≤ r.hour ∧ r.hour ≤ x.copy.last
  /-- R98: step b is later than step a. -/
  order : ∀ a b, x.stepA = some a → x.stepB = some b → a.hour < b.hour
  phase : x.phase < x.copy.framesPerStep
  /-- R55: the Cut List is empty while the mark is set. -/
  pending : x.coast.cut ≠ .done → x.coast.pieces = [] ∧ x.coast.overflow = 0
  /-- R57: no cut runs while the store is not VALID. -/
  cutting : x.coast.cut = .cutting → c.state = .valid
  pieces : x.coast.pieces.length ≤ 4096

/-- The Show Controller (R92, R96, R100, R103, R104). -/
structure State.ShowSound (s : State) : Prop where
  pages : ∀ i p, s.ctl.page i = some p → p.Sound
  /-- R103: entries name only defined pages. -/
  cues : ∀ e ∈ s.ctl.queue, (s.ctl.page e.page).isSome = true
  /-- R103: NEXT is built whenever it is empty and the queue is not. -/
  built : s.ctl.next = none → s.ctl.queue = []
  next : ∀ x, s.ctl.next = some x → x.Sound s.field.grid s.coast ∧ x.phase = 0 ∧ x.ended = false
    ∧ x.prep.isSome = true ∧ (x.prep = some .preparing → x.coast.cut = .cutting)
  live : ∀ x, s.ctl.live = some x → x.Sound s.field.grid s.coast ∧ x.prep = none
  stacked : ∀ x, some x ∈ s.ctl.stack → x.Sound s.field.grid s.coast ∧ x.prep = none

/-- The Insert Stack: LIVE holds a context whenever it is not empty, and an empty marker stands only at the
bottom (R112). -/
structure State.StackSound (s : State) : Prop where
  live : s.ctl.stack ≠ [] → s.ctl.live.isSome = true
  markers : ∀ e ∈ s.ctl.stack.tail, e.isSome = true

/-! ### Capacities -/

/-- The collections hold no more than their rules allow (R28, R100, R152, R153, R166). -/
structure State.Bounded (s : State) : Prop where
  ingestQueue : s.ingest.queue.length ≤ 64
  cueQueue : s.ctl.queue.length ≤ 8
  stack : s.ctl.stack.length ≤ 2
  buffers : ∀ p, (s.ports.get p).buffer.length ≤ 2
  level : s.composer.governor.level ≤ 3
  lateWindow : s.composer.governor.window.length ≤ 50 ∧ lateCount s.composer.governor.window ≤ 2
  run : s.composer.governor.run ≤ 249

/-! ### Frame Timing (Chapter 6) -/

/-- Frame Timing (R124, R125, R126, R130, R134). -/
structure State.TimingSound (s : State) : Prop where
  /-- R126, R134: no internal frame start is due exactly in LOCKED and in DORMANT. -/
  due : s.timing.nextDue = none ↔ s.timing.lock = .locked ∨ s.output.mode = .dormant
  /-- R134: in DORMANT the lock state is FREE_RUN and both counts are 0. -/
  dormant : s.output.mode = .dormant →
    s.timing.lock = .freeRun ∧ s.timing.goodIntervals = 0 ∧ s.timing.holdover = 0
  /-- R125: the measured period is within the tolerance of the nominal period. -/
  measured : goodInterval s.timing.rate s.timing.measured = true
  good : s.timing.goodIntervals ≤ 8 ∧ (s.timing.lock = .acquiring → s.timing.goodIntervals ≤ 7)
  /-- R130, R131: the holdover count counts only in HOLDOVER. -/
  holdover : s.timing.holdover ≤ 249 ∧ (s.timing.holdover = 0 ↔ s.timing.lock ≠ .holdover)
  pulse : s.timing.lock = .acquiring ∨ s.timing.lock = .locked → s.timing.lastPulse.isSome = true
  frameCount : s.timing.frameCount < 4294967296
  /-- R124: both counts saturate. -/
  glitches : s.timing.glitches ≤ 65535
  runts : s.timing.runts ≤ 65535

/-! ### The Composer and the Output Stage (Chapter 7) -/

/-- A snapshot: its weight is 0..255, and it carries no line work under the coast-pending mark (R65, R143). -/
def Snapshot.Sound (x : Snapshot) : Prop :=
  ∀ c, x.chart = some c → c.weight ≤ 255 ∧ (c.coastPending = true → c.pieces = [] ∧ c.overflow = 0)

/-- The Composer (R144, R145, R149). -/
structure State.ComposerSound (s : State) : Prop where
  /-- An idle Composer has an empty mailbox. -/
  idle : s.composer.composition = none → s.composer.mailbox = none
  mailbox : ∀ x, s.composer.mailbox = some x → x.Sound
  composition : ∀ x, s.composer.composition = some x → x.snapshot.Sound ∧ x.level ≤ 3
  counts : s.composer.late ≤ 65535 ∧ s.composer.lateFrames ≤ 65535 ∧ s.composer.dropped ≤ 65535

/-- The safe card, drawn as STILL or as FREEZE (R158). -/
def Fill.isSafeCard : Fill → Bool
  | .stillCard _ => true
  | .freezeCard _ => true
  | .transparent => false
  | .lineUpCard => false
  | .chart _ => false

/-- The Output Stage (R154, R155, R160, R185). -/
structure State.OutputSound (s : State) : Prop where
  /-- R160: the line-up flag is OFF in ON_AIR. -/
  lineup : s.output.mode = .onAir → s.output.lineup = false
  /-- R160: the line-up card never reaches a keyed output. -/
  unkeyed : s.output.fill = .lineUpCard → s.output.key = .nothing
  /-- R184: the key carries nothing in DORMANT. -/
  dormant : s.output.mode = .dormant → s.output.key = .nothing
  /-- R155: while safe holds the fill carries the safe card. -/
  safe : s.resetLine = false → s.safeHolds = true → s.output.fill.isSafeCard = true
  /-- R154: the freeze record is held only while safe holds. -/
  freeze : s.resetLine = false → s.safeHolds = false → s.output.freeze = none
  /-- R185: while the RESET line is asserted the fill and the key carry nothing. -/
  frozen : s.resetLine = true → s.output.fill = .transparent ∧ s.output.key = .nothing

/-! ### Notices (Chapter 9) -/

/-- No record holds a flag of a group its mask gives OFF (R176, R179), and the counts saturate (R170). -/
def State.NoticesSound (s : State) : Prop :=
  ∀ p, (∀ e, (s.ports.get p).mask.get (noticeGroup e) = .off → (s.ports.get p).record.get e = false)
    ∧ (s.ports.get p).linkErrors ≤ 65535 ∧ (s.ports.get p).overruns ≤ 65535

/-! ### The request a command stands for -/

/-- The reference `r` is to the READY slot of the smallest valid hour in `lo..hi` (R14, R16, R98). -/
structure FieldStore.IsFirstReady (f : FieldStore) (lo hi : Nat) (r : SlotRef) : Prop where
  ready : (f.slot r.slot).state = .ready
  names : (f.slot r.slot).hour = some r.hour ∧ (f.slot r.slot).generation = r.generation
  range : lo ≤ r.hour ∧ r.hour ≤ hi
  first : ∀ j h, (f.slot j).state = .ready → (f.slot j).hour = some h → lo ≤ h → h ≤ hi → r.hour ≤ h

/-- The Glyph Memory and the Area Alert Table cleared together, as a change of context clears them (R78, R86). -/
def Evaluator.cleared (e : Evaluator) : Evaluator := { e with glyphs := [], alerts := Vector.replicate 31 .quiet }

/-- The state `t` with the reply of a request recorded at its port: its outcome, its fields, and the status
header as `t` stands (R168). -/
def State.answered (t : State) (p : Port) (o : OutcomeCode) (fields : List Field) : State :=
  respond p (t, { outcome := o, fields := fields })

end Sys2Proof.Machine

namespace Sys2Proof

/-- The port a request's command is taken on. -/
def Instr.requestPort (c : Instr) : Option Port :=
  match c with
  | .cellRead p _ _ _ => some p
  | .areaRead p => some p
  | .statusRead p => some p
  | .timelineRead p => some p
  | .noticeRead p => some p
  | .noticeMask p _ => some p
  | c => c.request?.bind fun r => (kindPorts (requestKind r)).bind List.head?

/-- The time a request's command carries; 0 where its rule uses none. -/
def Instr.requestTime (c : Instr) : Nat :=
  match c with
  | .referenceSet _ t => t
  | .timingRead t => t
  | .outputMode _ t => t
  | .playoutReset t => t
  | _ => 0

/-- The commands that act while the RESET line is asserted: the lines' own and POWER_ON (R185, R186). -/
def Instr.actsWhileReset (c : Instr) : Bool :=
  match c with
  | .powerOn _ => true
  | .resetLineRelease _ => true
  | .safeLineChange _ => true
  | _ => false

end Sys2Proof
end

