-- ==== Sys2Proof/Certificates/Slice0/Obligations.lean ====
section
/-! DEFINITION. The statements for the provers. Unless a statement says otherwise its states are those with the
RESET line released; every command's conclusion is the whole next state, so that what the next state does not
name is unchanged. -/

open Sys2Proof Sys2Proof.Machine

/-! ### The queue of commands, the clock and the RESET line -/

/-- The command at the front of the queue is taken, with the rest of the queue left. The queue is the model's
own (log entry 36). -/
def Obligations.StepTakesFrontCommand : Prop :=
  ∀ (s : State) (c : Instr) (rest : List Instr), s.pending = c :: rest →
    step s = exec c { s with pending := rest }

/-- Every command answers a next state: none ends the machine (log entry 40), none touches the queue behind it, which
is the model's own (log entry 36), and the model's clock never runs back (log entry 6). -/
def Obligations.EveryCommandAnswersNext : Prop :=
  ∀ (c : Instr) (s : State), ∃ t, exec c s = .next t ∧ t.pending = s.pending ∧ s.now ≤ t.now

/-- R38, R40: the seconds timebase. While seconds pass they advance the count of seconds, the window in progress and a
running stale timer, neither past the tick of its own event. The window end compares the count with the target and
moves GOOD and DEGRADED; the stale expiry stops the timer and makes the feed STALE. On an empty queue one second
passes (log entry 3), with the window end and the expiry that fall at its tick; where both fall at it their order is
the free value of log entry 5. As commands each falls at the tick that completes its length, the other's seconds held
to its own (log entry 4); under CONTINUOUS there is no window end and a stopped timer has no expiry (log entry 2). -/
def Obligations.SecondsTimebaseTicks : Prop :=
  ∀ s : State, s.resetLine = false →
    let f := s.feed
    let passed (n : Nat) : State :=
      { s with
        timing := { s.timing with seconds := s.timing.seconds + n }
        feed := { f with
          elapsed := match windowLength f.window with
            | some len => min len (f.elapsed + n)
            | none => f.elapsed
          staleSeconds := if f.staleRunning then min f.staleTimeout (f.staleSeconds + n) else f.staleSeconds } }
    let ended (u : State) : State :=
      let above := decide (u.feed.targetM * 2 ^ u.feed.targetE < u.feed.windowCount)
      let f' : FeedMonitor := { u.feed with
        elapsed := 0, windowCount := 0, lastWindow := u.feed.windowCount
        state := if above ∧ u.feed.state = .good then .degraded
          else if ¬ above ∧ u.feed.state = .degraded then .good else u.feed.state }
      State.raiseIf (State.raiseIf { u with feed := f' } (above && decide (u.feed.state = .good)) .feedErrors)
        (!above && decide (u.feed.state = .degraded)) .feedRestored
    let expired (u : State) : State :=
      State.raiseIf
        { u with feed := { u.feed with staleSeconds := u.feed.staleTimeout, staleRunning := false, state := .stale } }
        (decide (u.feed.state ≠ .stale)) .feedStale
    let windowDue := ∃ len, windowLength f.window = some len ∧ len ≤ f.elapsed + 1
    let staleDue := f.staleRunning = true ∧ f.staleTimeout ≤ f.staleSeconds + 1
    (s.pending = [] →
      (¬ windowDue → ¬ staleDue → step s = .next (passed 1))
      ∧ (windowDue → ¬ staleDue → step s = .next (ended (passed 1)))
      ∧ (¬ windowDue → staleDue → step s = .next (expired (passed 1)))
      ∧ (windowDue → staleDue → step s = .next
          (if Config.windowEndFirst (s.timing.seconds + 1) then expired (ended (passed 1))
           else ended (expired (passed 1)))))
    ∧ (f.window = .continuous → exec .windowEnd s = .next s)
    ∧ (∀ len, windowLength f.window = some len →
        exec .windowEnd s = .next (ended (passed (len - f.elapsed))))
    ∧ (f.staleRunning = false → exec .staleTimerExpiry s = .next s)
    ∧ (f.staleRunning = true →
        exec .staleTimerExpiry s = .next (expired (passed (f.staleTimeout - f.staleSeconds))))

/-- R185, R170: the assertion of the RESET line freezes the generator where it stands, cuts off the replies being
sent, and leaves nothing on the fill and the key. While the line is asserted no request is taken, no pulse, no
completion, and no timer expires; of a SAFE line change the level alone is kept, to be read at the release (log
entry 9). -/
def Obligations.ResetLineFreezes : Prop :=
  ∀ s : State,
    (s.resetLine = false →
      exec .resetLineAssertion s = .next
        { s with
          resetLine := true
          ports := { ip := { s.ports.ip with serving := none }, dp := { s.ports.dp with serving := none },
                     pp := { s.ports.pp with serving := none } }
          output := { s.output with fill := .transparent, key := .nothing } })
    ∧ (s.resetLine = true →
        (∀ c : Instr, c.actsWhileReset = false → exec c s = .next s)
        ∧ (∀ b, exec (.safeLineChange b) s = .next { s with safeLine := b })
        ∧ (∀ p, s.attention p = false)
        ∧ (s.pending = [] → step s = .next s))

/-- The command of a request is the request handed to its block on a port it belongs to, with its reply formed
after its own effects and recorded at that port (R167, R168, log entry 1). R169, R121: the reply carries its outcome,
the fields of its rule, and a status header whose fields are given from the state as it stands after those effects;
the pending flags are those of the port's own record under its mask, and the fields are sent in the order of R169's
table. -/
def Obligations.RequestCommandsAreHandled : Prop :=
  (∀ (c : Instr) (r : Request) (p : Port) (s : State),
     c.request? = some r → c.requestPort = some p → s.resetLine = false →
     (∃ ps, kindPorts (requestKind r) = some ps ∧ p ∈ ps)
     ∧ exec c s = .next (respond p (handle p r (s.at c.requestTime))))
  ∧ (∀ (p : Port) (s : State),
       (∀ a : Answer, respond p (s, a) = s.modifyPort p fun y =>
         { y with lastReply := some { outcome := a.outcome, header := statusHeader s p, fields := a.fields } })
       ∧ let x := s.ports.get p
         let pending (g : Setting) : Prop := ∃ e, x.record.get e = true ∧ x.mask.get (noticeGroup e) = g
         let flag (b : Bool) : Field := .octet (if b then 1 else 0)
         let h := statusHeader s p
         (h.urgent = true ↔ pending .urgent) ∧ (h.routine = true ↔ pending .routine)
         ∧ headerFields h =
           [flag h.urgent, flag h.routine,
            .octet (match s.ctl.live with
              | none => 0
              | some _ => if s.ctl.hold then 2 else 1),
            flag (s.ctl.live.elim false fun y => y.ended), flag (s.ctl.live.elim false fun y => y.stepA.isNone),
            .num s.ctl.stack.length,
            .octet (match s.feed.state with
              | .good => 0
              | .degraded => 1
              | .stale => 2),
            .octet (if s.output.mode = .dormant then 4 else match s.timing.lock with
              | .freeRun => 0
              | .acquiring => 1
              | .locked => 2
              | .holdover => 3),
            .octet (match s.output.mode with
              | .standby => 0
              | .rehearsal => 1
              | .onAir => 2
              | .dormant => 3),
            flag (s.safeLine || s.output.safeSet)])

/-- R186: power-on and the release of the RESET line put every block at its initial value, record the cause and
read the SAFE line; then those values, block by block. The times, the levels of the lines and the queue are outside
the blocks, and the state after power-on is State.reset at time 0 with both lines released (log entry 10). Power-on
with the line asserted is taken at its release (log entry 9), and a release of a line not asserted changes nothing
(log entry 2). -/
def Obligations.RestartPutsInitialValues : Prop :=
  (∀ (t : Nat) (s : State),
     let restarted (cause : ResetCause) : State :=
       { State.reset with
         now := max s.now t, safeLine := s.safeLine, cause := cause, pending := s.pending
         timing := { State.reset.timing with nextDue := some (max s.now t + 40000) }
         output := { State.reset.output with fill := if s.safeLine then .stillCard none else .transparent } }
     (s.resetLine = false → exec (.powerOn t) s = .next (restarted .powerOn)
       ∧ exec (.resetLineRelease t) s = .next s)
     ∧ (s.resetLine = true →
         exec (.powerOn t) s = .next { s with now := max s.now t, powerOnHeld := true }
         ∧ exec (.resetLineRelease t) s = .next (restarted (if s.powerOnHeld then .powerOn else .resetLine))))
  ∧ (let s := State.reset
     (s.cause = .powerOn ∧ s.ports.ip = s.ports.dp ∧ s.ports.dp = s.ports.pp
       ∧ s.ports.ip.resetSeen = true ∧ s.ports.ip.receiver = .hunting ∧ s.ports.ip.buffer = []
       ∧ s.ports.ip.serving = none ∧ s.ports.ip.linkErrors = 0 ∧ s.ports.ip.overruns = 0
       ∧ (∀ e ∈ allNotices, s.ports.ip.record.get e = false) ∧ (∀ g ∈ allGroups, s.ports.ip.mask.get g = .off))
     ∧ (s.field.grid = none ∧ s.field.timeline = [] ∧ (∀ i, s.field.slot i =
         { state := .free, hour := none, fieldSet := none, generation := 0, pins := 0, loaded := 0, warnings := [],
           cells := [] }))
     ∧ (s.ingest.load = none ∧ s.ingest.queue = [] ∧ s.ingest.inFlight = none ∧ s.ingest.lastLoad = none)
     ∧ (s.feed.state = .stale ∧ s.feed.window = .tenSeconds ∧ s.feed.targetM = 3 ∧ s.feed.targetE = 0
       ∧ s.feed.coverageMin = 90 ∧ s.feed.staleTimeout = 30 ∧ s.feed.windowCount = 0 ∧ s.feed.lastWindow = 0
       ∧ s.feed.continuous = 0 ∧ s.feed.elapsed = 0 ∧ s.feed.staleSeconds = 0 ∧ s.feed.staleRunning = true)
     ∧ (s.coast.state = .empty ∧ s.coast.vertices = [] ∧ s.coast.polylines = [] ∧ s.coast.marker = none
       ∧ s.areaMap = none)
     ∧ ((∀ i, s.ctl.page i = none) ∧ s.ctl.queue = [] ∧ s.ctl.next = none ∧ s.ctl.live = none ∧ s.ctl.stack = []
       ∧ s.ctl.hold = false)
     ∧ (s.timing.lock = .freeRun ∧ s.timing.rate = .r25 ∧ s.timing.measured = 40000 ∧ s.timing.glitches = 0
       ∧ s.timing.runts = 0 ∧ s.timing.frameCount = 0 ∧ s.timing.nextDue = some (s.now + 40000)
       ∧ s.timing.lastPulse = none ∧ s.timing.lastFrameStart = none ∧ s.timing.seconds = 0
       ∧ s.timing.goodIntervals = 0 ∧ s.timing.holdover = 0)
     ∧ (s.eval.galeMode = .latched ∧ s.eval.glyphs = [] ∧ (∀ i : Fin 31, s.eval.alerts[i] = .quiet)
       ∧ s.eval.bands.force = [10, 40, 70, 110, 170, 220, 280, 340, 410, 480, 560, 640]
       ∧ s.eval.bands.tide = [-200, 0, 100, 200, 300, 400, 500] ∧ s.eval.bands.forceHyst = 5
       ∧ s.eval.bands.tideHyst = 3 ∧ s.eval.bands.slack = 10 ∧ s.eval.bands.galeBand = 8)
     ∧ (s.composer.composition = none ∧ s.composer.mailbox = none ∧ s.composer.completed = none
       ∧ s.composer.late = 0 ∧ s.composer.lateFrames = 0 ∧ s.composer.dropped = 0 ∧ s.composer.governor.level = 0
       ∧ s.composer.governor.window = [] ∧ s.composer.governor.run = 0)
     ∧ (s.output.shown = none ∧ s.output.safeSet = false ∧ s.output.card = .still ∧ s.output.freeze = none
       ∧ s.output.lineup = false ∧ s.output.mode = .standby ∧ s.output.fill = .transparent
       ∧ s.output.key = .nothing))

/-! ### The control links and the notices -/

/-- R163, R164, R167: every request whose fields fit their carriers is read back from the octets that carry
it, with no octet left over. The order of the fields of a NEW part of COAST_LINE is log entry 45's. -/
def Obligations.RequestRoundTrip : Prop :=
  ∀ r : Request, r.wellFormed = true → decodeRequest (requestKind r) (encodeRequest r) = some r

/-- R165, R166, R167, R168: a good-check frame that finds its port idle and its buffer empty is taken at once:
checked for its kind, its port and its payload in that order, handed to its block, answered with its tag, and
the port then serves the reply. On the Ingest Port the stale timer has restarted first (R40). -/
def Obligations.FrameTakesItsRequest : Prop :=
  ∀ (p : Port) (f : LinkFrame) (t : Nat) (s : State), s.resetLine = false →
    f.payload.length ≤ 1018 → f.check = frameCheck f.kind f.tag f.payload →
    (s.ports.get p).serving = none → (s.ports.get p).buffer = [] →
    let s₀ := (s.at t).modifyPort p fun x => { x with receiver := .hunting }
    let s₁ := if p = .ip then s₀.goodIngestFrame else s₀
    let a : State × Answer :=
      if f.kind.toNat = 0 ∨ 0x80 ≤ f.kind.toNat ∨ kindPorts f.kind.toNat = none then (s₁, ⟨.badKind, []⟩)
      else if p ∉ (kindPorts f.kind.toNat).getD [] then (s₁, ⟨.wrongPort, []⟩)
      else match decodeRequest f.kind.toNat f.payload with
        | none => (s₁, ⟨.badLength, []⟩)
        | some r => handle p r s₁
    exec (.linkFrameReceived p f t) s = .next
      ((respond p a).modifyPort p fun x =>
        { x with serving := some { kind := if f.kind.toNat < 0x80 then f.kind + 0x80#8 else f.kind
                                   tag := f.tag
                                   reply := { outcome := a.2.outcome, header := statusHeader a.1 p,
                                              fields := a.2.fields } } })

/-- R165, R166: what a port's receiver and buffer do. A frame that finds the buffer full is lost to overrun
unchecked; otherwise one whose check differs is a bad-check frame, an errored record on the Ingest Port; otherwise
one that finds the port busy joins the buffer, having restarted the stale timer on the Ingest Port. A start octet
begins a frame; a framing error or a gap abandons the frame being received. After a framing error the receiver hunts
again from the octet after the start octet, so one of the two length octets that is 0xC3 starts a frame (log entry
29); a length within 2..1020 is no framing error and changes nothing (log entry 30), and a hunting receiver has no
frame to abandon (log entry 2). At the end of a reply the port takes the oldest frame of its buffer, or becomes
idle. -/
def Obligations.PortEventsJudged : Prop :=
  (∀ (p : Port) (f : LinkFrame) (t : Nat) (s : State), s.resetLine = false → f.payload.length ≤ 1018 →
     let x := s.ports.get p
     let s₀ := (s.at t).modifyPort p fun x => { x with receiver := .hunting }
     (2 ≤ x.buffer.length →
       exec (.linkFrameReceived p f t) s
         = .next (s₀.modifyPort p fun y => { y with overruns := min 65535 (y.overruns + 1) }))
     ∧ (x.buffer.length < 2 → f.check ≠ frameCheck f.kind f.tag f.payload →
         let s₁ := s₀.modifyPort p fun y => { y with linkErrors := min 65535 (y.linkErrors + 1) }
         exec (.linkFrameReceived p f t) s = .next (if p = .ip then s₁.erroredRecord else s₁))
     ∧ (x.buffer.length < 2 → f.check = frameCheck f.kind f.tag f.payload →
         (x.serving ≠ none ∨ x.buffer ≠ []) →
         exec (.linkFrameReceived p f t) s
           = .next ((if p = .ip then s₀.goodIngestFrame else s₀).modifyPort p fun y =>
               { y with buffer := y.buffer ++ [f] })))
  ∧ (∀ (p : Port) (s : State), s.resetLine = false →
       let abandoned (after : Receiver) :=
         let s₁ := s.modifyPort p fun x =>
           { x with receiver := after, linkErrors := min 65535 (x.linkErrors + 1) }
         if p = .ip then s₁.erroredRecord else s₁
       exec (.startOctet p) s = .next (s.modifyPort p fun x => { x with receiver := .receiving })
       ∧ ((s.ports.get p).receiver = .receiving →
           exec (.frameGapTimeout p) s = .next (abandoned .hunting)
           ∧ ∀ n, n < 2 ∨ 1020 < n → exec (.framingError p n) s = .next
               (abandoned (if n / 256 % 256 = 0xC3 ∨ n % 256 = 0xC3 then .receiving else .hunting)))
       ∧ (∀ n, 2 ≤ n ∧ n ≤ 1020 → exec (.framingError p n) s = .next s)
       ∧ ((s.ports.get p).receiver = .hunting →
           exec (.frameGapTimeout p) s = .next s ∧ ∀ n, exec (.framingError p n) s = .next s))
  ∧ (∀ (p : Port) (t : Nat) (s : State), s.resetLine = false →
       let s₀ := s.at t
       ((s.ports.get p).serving = none → exec (.replySent p t) s = .next s₀)
       ∧ (∀ r, (s.ports.get p).serving = some r → (s.ports.get p).buffer = [] →
           exec (.replySent p t) s = .next (s₀.modifyPort p fun x => { x with serving := none }))
       ∧ (∀ r f rest, (s.ports.get p).serving = some r → (s.ports.get p).buffer = f :: rest →
           let a := takeFrame p f (s₀.modifyPort p fun x => { x with buffer := rest })
           exec (.replySent p t) s = .next ((respond p a).modifyPort p fun x =>
             { x with serving := some { kind := replyKind f.kind, tag := f.tag, reply := replyOf p a } })))

/-- R43, R91, R106, R135, R161, R162, R173: a reading request is taken with DONE and changes nothing, and its reply is
written out, field by field in the order of its rule; CELL_READ refuses a count outside 1..96. TIMING_READ moves the
clock alone to the time it is taken at. The form of a field its rule leaves open is log entry 16's, the stale timer's
condition log entry 42's, the indication that Frame Timing is stopped log entry 18's, an empty place of the Insert
Stack log entry 43's, and an empty Shown Frame Record or an empty-page record log entry 46's. -/
def Obligations.ReadsChangeNothing : Prop :=
  ∀ s : State, s.resetLine = false →
    let flag (b : Bool) : Field := .octet (if b then 1 else 0)
    let opt (o : Option (List Field)) : List Field := o.elim [.octet 0] fun x => .octet 1 :: x
    let numOpt (o : Option Nat) : List Field := opt (o.map fun n : Nat => [.num n])
    let count (n : Nat) : List Field := [.long n, .num (compactPair n).1, .num (compactPair n).2]
    let feed : List Field :=
      let f := s.feed
      let l := s.ingest.load
      let last (x : LoadResult) : List Field := List.flatten
        [[.octet (loadOutcomeCode x.outcome), .num x.hour, .num (x.slot : Nat)], numOpt x.coverage,
         numOpt x.generation, [.num x.clamps, .num x.misplaced]]
      List.flatten
        [[.octet (feedStateCode f.state), .octet (feedWindowCode f.window), .num f.targetM, .num f.targetE,
          .long (f.targetM * 2 ^ f.targetE), .num f.coverageMin, .num f.staleTimeout],
         count f.windowCount, count f.lastWindow, count f.continuous,
         if f.window = .continuous then [.octet 0] else [.octet 1, .num f.elapsed],
         [.num f.staleSeconds, flag f.staleRunning, .octet (loadStateCode l)],
         numOpt (l.map fun x => (x.slot : Nat)), numOpt (l.map fun x => x.hour),
         opt (l.map fun x => [.octet (fieldSetCode x.fieldSet)]),
         [.num ((l.map fun x => x.clamps).getD 0 : Nat), .num ((l.map fun x => x.misplaced).getD 0 : Nat),
          .num s.ingest.queue.length, flag s.ingest.inFlight.isSome],
         opt (s.ingest.lastLoad.map last)]
    let bands : List Field :=
      let b := s.eval.bands
      List.flatten
        [.octet b.force.length :: b.force.map fun n : Nat => .num n, .octet b.tide.length :: b.tide.map .num,
         [.num b.forceHyst, .num b.tideHyst, .num b.slack, .num b.galeBand, .octet (galeModeCode s.eval.galeMode)],
         .octet 31 :: s.eval.alerts.toList.map fun a => .octet (if a = .gale then 1 else 0)]
    let cues : List Field :=
      let slot (r : Option SlotRef) : List Field :=
        opt (r.map fun x => [.num (x.slot : Nat), .num x.hour, .num x.generation])
      let report (c : Option Context) : List Field := opt (c.map fun x => List.flatten
        [[.num (x.page : Nat), .octet (originCode x.origin), .num x.startUsed, .num x.window.col, .num x.window.row,
          .num x.window.width, .num x.window.height],
         slot x.stepA, slot x.stepB,
         [.num x.phase, .num x.copy.framesPerStep, flag x.ended, flag x.stepA.isNone],
         opt (x.prep.map fun p => [.octet (prepCode p)]),
         [.octet (cutStateCode x.coast.cut), .num x.coast.pieces.length, .num x.coast.overflow,
          flag (decide (x.coast.cut ≠ .done))]])
      List.flatten
        [.octet s.ctl.queue.length :: s.ctl.queue.flatMap fun e => .num (e.page : Nat) :: numOpt e.start,
         [flag s.ctl.hold], report s.ctl.next, report s.ctl.live, report (s.ctl.stack[0]?).join,
         report (s.ctl.stack[1]?).join]
    let timing (now : Nat) : List Field :=
      let x := s.timing
      let lock : Nat := match x.lock with
        | .freeRun => 0
        | .acquiring => 1
        | .locked => 2
        | .holdover => 3
      List.flatten
        [if s.output.mode = .dormant then [.octet 0] else [.octet 1, .octet lock],
         [.octet (rateCode x.rate), .long (nominalPeriod x.rate), .long x.measured, .num x.goodIntervals,
          .num x.holdover, .num x.glitches, .num x.runts],
         opt (x.lastPulse.map fun l => [.long (min 16777215 (now - l))]),
         opt (x.lastFrameStart.map fun l => [.long (now - l)]), [.long x.frameCount, .long x.seconds]]
    let timeline : List Field :=
      let f := s.field
      let entry (i : SlotId) : List Field :=
        [.num (i : Nat), .num ((f.slot i).hour.getD 0 : Nat), .num (f.slot i).generation]
      let slot (x : Slot) : List Field := List.flatten
        [.octet (slotStateCode x.state) :: numOpt x.hour,
         opt (x.fieldSet.map fun y => [.octet (fieldSetCode y)]),
         [.num x.generation, .num x.pins, .num x.loaded],
         .octet x.warnings.length :: x.warnings.map fun n : Nat => .num n]
      List.flatten
        [.octet (if f.grid = none then 0 else 1) :: numOpt (f.grid.map fun g => g.columns),
         numOpt (f.grid.map fun g => g.rows),
         .octet f.timeline.length :: f.timeline.flatMap entry, .octet 16 :: f.slots.toList.flatMap slot,
         numOpt (s.ingest.load.map fun l => (l.slot : Nat))]
    let frame : List Field := opt (s.output.shown.map fun r => [.long r.frame])
    let chart : Option RecordChart := s.output.shown.bind fun r => r.chart
    let areas : List Field :=
      let area (x : AreaSummary × Bool) : List Field :=
        numOpt x.1.maxBand ++ [.num x.1.windCells, flag x.1.warned, flag x.2, flag x.1.warned]
      let reported : List (AreaSummary × Bool) := match chart with
        | some c => c.summaries.zip c.highlights
        | none => List.replicate 31 ({ maxBand := none, windCells := 0, warned := false }, false)
      List.flatten
        [frame, opt (chart.map fun c => [.num (c.page : Nat)]), .octet reported.length :: reported.flatMap area]
    let cells (row col n : Nat) : List Field :=
      let head (c : RecordChart) : List Field := List.flatten
        [.num (c.page : Nat) :: numOpt c.hourA, numOpt c.hourB,
         [.num c.weight, .num c.level, flag c.feedMark, flag c.noData, flag c.coastPending, flag c.ended]]
      let entry (x : CellResult) : List Field := List.flatten
        [[.num x.col, .num x.row, .num x.area, flag x.land],
         opt (x.wind.map fun w => [.num w.u, .num w.v]), numOpt x.speed,
         opt (x.direction.map fun d => [.octet (directionCode d)]), numOpt x.rawForce, numOpt x.shownForce,
         opt (x.tideHeight.map fun h => [.num h]), numOpt x.tideBand, numOpt x.shownTide,
         opt (x.trend.map fun d => [.octet (trendCode d)]), [flag x.windEvaluated]]
      let found (k : Nat) : Option CellResult :=
        (chart.elim [] fun c => c.cells).find? fun x => decide (x.col = col + k ∧ x.row = row)
      List.flatten
        [frame, opt (chart.map head), .octet n :: (List.range n).flatMap fun k => opt ((found k).map entry)]
    exec .feedRead s = .next (s.answered .ip .done feed)
    ∧ exec .bandsRead s = .next (s.answered .dp .done bands)
    ∧ exec .cueRead s = .next (s.answered .dp .done cues)
    ∧ (∀ t, exec (.timingRead t) s = .next ((s.at t).answered .pp .done (timing (s.at t).now)))
    ∧ (∀ p, exec (.timelineRead p) s = .next (s.answered p .done timeline))
    ∧ (∀ p, exec (.areaRead p) s = .next (s.answered p .done areas))
    ∧ (∀ p row col n, 1 ≤ n ∧ n ≤ 96 → exec (.cellRead p row col n) s = .next (s.answered p .done (cells row col n)))
    ∧ (∀ p row col n, n < 1 ∨ 96 < n → exec (.cellRead p row col n) s = .next (s.answered p .badLength []))

/-- R95: PAGE_READ refuses a number above 31 and otherwise reports the page. The record is written out without the
defined flag that R92 lists among its fields, which the reply gives before it (log entry 19); an undefined page is replied
as its number and the clear flag (log entry 47). -/
def Obligations.PageReadReports : Prop :=
  ∀ (n : Nat) (s : State), s.resetLine = false →
    (31 < n → exec (.pageRead n) s = .next (s.answered .dp .noPage []))
    ∧ (∀ h : n < 32,
        (s.ctl.page ⟨n, h⟩ = none → exec (.pageRead n) s = .next (s.answered .dp .done [.num n, .octet 0]))
        ∧ ∀ r, s.ctl.page ⟨n, h⟩ = some r →
            exec (.pageRead n) s = .next (s.answered .dp .done
              ([.num n, .octet 1]
                ++ [.num r.originCol, .num r.originRow, .num r.width, .num r.height, .num r.stride,
                    .octet (layerOctet r.layers).toNat, .num r.first, .num r.last, .num r.framesPerStep,
                    .octet (endActionCode r.endAction)]
                ++ match r.start with
                  | none => [.octet 0]
                  | some k => [.octet 1, .num k])))

/-- R171, R172, R178: STATUS_READ clears the reset-seen flag of its own port and of no other, and reports it as it
stood with the rest of R172's list, written out field by field; the lock state is STOPPED as a fifth code in DORMANT
(log entry 18), and a frame number behind its presence octet also says whether there is one (log entry 48).
NOTICE_READ clears every flag of the record of its port and replies the flags as they stood; both pending
flags of the reply are clear and the attention line is released. -/
def Obligations.StatusAndNoticeReadClear : Prop :=
  (∀ (p : Port) (s : State), s.resetLine = false →
     let flag (b : Bool) : Field := .octet (if b then 1 else 0)
     let frame (o : Option Nat) : List Field := o.elim [.octet 0] fun n => [.octet 1, .long n]
     let x := s.ports.get p
     let o := s.output
     let c := s.composer
     let g := s.composer.governor
     exec (.statusRead p) s
       = .next ((s.modifyPort p fun y => { y with resetSeen := false }).answered p .done (List.flatten
         [[.octet (match s.cause with
             | .powerOn => 0
             | .resetLine => 1),
           flag x.resetSeen, .num x.linkErrors, .num x.overruns],
          [.octet (modeCode o.mode), flag s.safeLine, flag o.safeSet, flag (s.safeLine || o.safeSet),
           .octet (if o.card = .still then 0 else 1), flag o.lineup],
          [.octet (lockShownCode (lockShown s)), .long s.timing.frameCount],
          frame (c.composition.map fun y => y.snapshot.frame), frame (c.mailbox.map fun y => y.frame),
          frame (c.completed.map fun y => y.frame), frame (o.shown.map fun y => y.frame),
          [.num c.late, .num c.lateFrames, .num c.dropped],
          [.num g.level, .num g.window.length, .num (g.window.count .late), .num g.run],
          [.octet (feedStateCode s.feed.state), .num s.ingest.queue.length, .octet (loadStateCode s.ingest.load)],
          [flag s.field.grid.isSome, .num (s.field.slots.toList.countP fun y => y.state = .ready)]])))
  ∧ (∀ (p : Port) (s : State), s.resetLine = false →
       let x := s.ports.get p
       ∃ t, exec (.noticeRead p) s = .next t
         ∧ t = (s.modifyPort p fun y => { y with record := NoticeRecord.empty }).answered p .done
             (allNotices.map (fun e => Field.octet (if x.record.get e then 1 else 0))
               ++ .octet (allNotices.filter x.record.get).length
                 :: (allNotices.filter x.record.get).flatMap (fun e =>
                   [.octet (groupCode (noticeGroup e)), .octet (settingCode (x.mask.get (noticeGroup e)))])
               ++ allGroups.map fun g => .octet (settingCode (x.mask.get g)))
         ∧ t.attention p = false
         ∧ ∃ r, (t.ports.get p).lastReply = some r ∧ r.header.urgent = false ∧ r.header.routine = false)

/-- R176, R177, R179, R180: NOTICE_MASK sets the groups it carries, clears the flags of the groups it sets OFF, and
keeps the rest; a code outside the three is refused and changes nothing. An event raised sets its flag at every port whose
mask gives its group ROUTINE or URGENT and changes nothing else; GALE_AREA alone is withdrawn. R177: outside reset a
port's attention line is asserted exactly when its record holds a flag. -/
def Obligations.NoticesFollowMasks : Prop :=
  (∀ (p : Port) (f : MaskFields) (s : State), s.resetLine = false →
     ((∃ g c, maskCode f g = some c ∧ 2 < c) →
       exec (.noticeMask p f) s = .next (s.answered p .badLength []))
     ∧ ((∀ g c, maskCode f g = some c → c ≤ 2) →
         ∃ (m : NoticeMask) (r : NoticeRecord),
           exec (.noticeMask p f) s
             = .next ((s.modifyPort p fun y => { y with mask := m, record := r }).answered p .done
                 (allGroups.map fun g => .octet (settingCode (m.get g))))
           ∧ (∀ g, maskCode f g = none → m.get g = (s.ports.get p).mask.get g)
           ∧ (∀ g c, maskCode f g = some c → settingCode (m.get g) = c)
           ∧ ∀ e, r.get e = ((s.ports.get p).record.get e && decide (maskCode f (noticeGroup e) ≠ some 0))))
  ∧ (∀ (s : State) (e : Notice),
       (s.raise e = { s with ports := (s.raise e).ports } ∧ s.withdrawGale = { s with ports := s.withdrawGale.ports })
       ∧ ∀ (p : Port),
         ((s.raise e).ports.get p
           = { s.ports.get p with record := ((s.raise e).ports.get p).record })
         ∧ (s.withdrawGale.ports.get p = { s.ports.get p with record := (s.withdrawGale.ports.get p).record })
         ∧ ∀ x, ((s.raise e).ports.get p).record.get x
               = ((s.ports.get p).record.get x
                   || (decide (x = e) && decide ((s.ports.get p).mask.get (noticeGroup e) ≠ .off)))
             ∧ (s.withdrawGale.ports.get p).record.get x
               = ((s.ports.get p).record.get x && decide (x ≠ .galeArea)))
  ∧ (∀ (p : Port) (s : State), s.resetLine = false →
       (s.attention p = true ↔ ∃ e, (s.ports.get p).record.get e = true))

/-! ### What every step keeps -/

/-- R186: the state after power-on meets every relation below. It is State.reset, power-on at time 0 with the RESET
and SAFE lines released (log entry 10). -/
def Obligations.ResetIsSound : Prop :=
  let s := State.reset
  (s.FieldSound ∧ s.CellsSound ∧ s.IngestSound ∧ s.FeedSound ∧ s.CoastSound ∧ s.TablesSound)
    ∧ (s.BandsSound ∧ s.ShowSound ∧ s.StackSound ∧ s.Bounded)
    ∧ (s.TimingSound ∧ s.ComposerSound ∧ s.OutputSound ∧ s.NoticesSound)

/-- R4, R7, R10, R15, R16: slot states, pin counts, the Timeline, the open load and every reference held agree,
whatever command is taken. -/
def Obligations.FieldStoreStaysSound : Prop :=
  ∀ s t : State, s.FieldSound → step s = .next t → t.FieldSound

/-- R8: a READY or RETIRING slot keeps the contents it was published with until it becomes FREE, and a RETIRING
slot does not return to READY (R5). -/
def Obligations.PublishedStepsAreFixed : Prop :=
  ∀ (s t : State) (i : SlotId), s.FieldSound → step s = .next t →
    let x := s.field.slot i
    let y := t.field.slot i
    x.state = .ready ∨ x.state = .retiring →
      y.state = .free
      ∨ (y.state = .retiring ∨ (y.state = .ready ∧ x.state = .ready))
        ∧ y.hour = x.hour ∧ y.fieldSet = x.fieldSet ∧ y.generation = x.generation ∧ y.loaded = x.loaded
        ∧ y.warnings = x.warnings ∧ y.cells = x.cells

/-- What the stores keep. R4, R6, R25: the contents of the slots stay within their ranges, the loaded-cell counts
count them. R23, R28, R29, R34 and R37 to R42: the open load, the queue and the drain agree, and the Feed Monitor
stays within its ranges. R46, R49, R51 and R73, R89, R90: the polylines span the vertex array, the tables addressed
by cell keep their canonical form, and the thresholds stay strictly ascending. -/
def Obligations.StoresStaySound : Prop :=
  (∀ s t : State, s.FieldSound → s.CellsSound → step s = .next t → t.CellsSound)
  ∧ (∀ s t : State, step s = .next t → (s.IngestSound → t.IngestSound) ∧ (s.FeedSound → t.FeedSound))
  ∧ (∀ s t : State, step s = .next t →
       (s.CoastSound → t.CoastSound) ∧ (s.TablesSound → t.TablesSound) ∧ (s.BandsSound → t.BandsSound))

/-- R92, R96 to R98, R103, R104, R112: pages, contexts and the Insert Stack stay within their rules, and the
queues within their capacities (R28, R100, R152, R166). -/
def Obligations.ShowStaysSound : Prop :=
  ∀ s t : State, step s = .next t →
    (s.ShowSound → t.ShowSound) ∧ (s.StackSound → t.StackSound) ∧ (s.Bounded → t.Bounded)

/-- R124 to R134: an internal frame start is due exactly outside LOCKED and DORMANT, and each count of Frame
Timing stays within its rule, the glitch and runt counts within 0..65535. -/
def Obligations.TimingStaysSound : Prop :=
  ∀ s t : State, s.TimingSound → step s = .next t → t.TimingSound

/-- What the output side keeps. R65, R144, R145: an idle Composer has an empty mailbox, weights are 0..255 and the
counts saturate. R154, R155, R158, R160, R184, R185: the line-up card never reaches a keyed output, safe always shows
the safe card, DORMANT never keys, and a held RESET line shows nothing. R170, R176, R179: no record holds a flag of a
group its mask gives OFF, and the port counts saturate. -/
def Obligations.OutputSideStaysSound : Prop :=
  (∀ s t : State, s.ShowSound → s.Bounded → s.ComposerSound → step s = .next t → t.ComposerSound)
  ∧ (∀ s t : State, s.OutputSound → step s = .next t → t.OutputSound)
  ∧ (∀ s t : State, s.NoticesSound → step s = .next t → t.NoticesSound)

/-- Which commands can change which state (R10, R45, R51, R73, R92, R133, R182): every other command, the link
frames that carry requests aside, leaves it as it stands. -/
def Obligations.OwnersAloneChange : Prop :=
  ∀ (c : Instr) (s t : State), exec c s = .next t →
    (∀ p f k, c ≠ .linkFrameReceived p f k) → (∀ p k, c ≠ .replySent p k) → (∀ k, c ≠ .powerOn k) →
    (∀ k, c ≠ .resetLineRelease k) →
    ((∀ m k, c ≠ .outputMode m k) → (∀ k, c ≠ .frefPulse k) → t.output.mode = s.output.mode)
    ∧ ((∀ r k, c ≠ .referenceSet r k) → t.timing.rate = s.timing.rate)
    ∧ ((∀ f, c ≠ .bandsWrite f) → t.eval.bands = s.eval.bands ∧ t.eval.galeMode = s.eval.galeMode)
    ∧ ((∀ n f, c ≠ .pageWrite n f) → (∀ m l, c ≠ .pageLayers m l) → t.ctl.pages = s.ctl.pages)
    ∧ ((c ≠ .coastBegin) → (∀ k b v, c ≠ .coastLineNew k b v) → (∀ v, c ≠ .coastLineContinue v) →
        c ≠ .coastEnd → t.coast = s.coast)
    ∧ ((∀ a b, c ≠ .areaMapBegin a b) → (∀ a b n e, c ≠ .areaMapRow a b n e) → (∀ a b, c ≠ .gridDefine a b) →
        t.areaMap = s.areaMap)
    ∧ ((∀ a b, c ≠ .gridDefine a b) → t.field.grid = s.field.grid)
    ∧ (c ≠ .stepClose → c ≠ .drainCompletion → (∀ h, c ≠ .stepDrop h) → (∀ m k, c ≠ .outputMode m k) →
        (∀ k, c ≠ .frefPulse k) → (∀ a b n v, c ≠ .cellBlock a b n v) →
        t.field.timeline = s.field.timeline)
    ∧ t.cause = s.cause ∧ t.pending = s.pending

/-! ### The Field Store, forecast ingest and the Feed Monitor -/

/-- R2, R3: GRID_DEFINE is refused while any slot is in use, then for its dimensions; taken, it sets the grid,
drops an Area Map of other dimensions, re-clamps every context and re-cuts those whose window changes, and
clears the Glyph Memory. -/
def Obligations.GridDefineSetsGrid : Prop :=
  ∀ (c r : Nat) (s : State), s.resetLine = false →
    ((∃ i, (s.field.slot i).state ≠ .free) →
      exec (.gridDefine c r) s = .next (s.answered .ip .gridInUse []))
    ∧ ((∀ i, (s.field.slot i).state = .free) → ¬ (8 ≤ c ∧ c ≤ 96 ∧ 8 ≤ r ∧ r ≤ 64) →
      exec (.gridDefine c r) s = .next (s.answered .ip .badGrid []))
    ∧ ((∀ i, (s.field.slot i).state = .free) → 8 ≤ c ∧ c ≤ 96 ∧ 8 ≤ r ∧ r ≤ 64 → s.ShowSound →
      let g : Grid := { columns := c, rows := r }
      let recut (x : Context) : Context :=
        if clampWindow (some g) x.copy = x.window then x
        else { x with
          window := clampWindow (some g) x.copy
          coast := { cut := if x.coast.cut = .awaiting ∨ s.coast.state ≠ .valid then .awaiting else .cutting,
                     pieces := [], overflow := 0 } }
      exec (.gridDefine c r) s = .next
        ({ s with
            field := { s.field with grid := some g }
            areaMap := match s.areaMap with
              | some m => if m.columns = c ∧ m.rows = r then some m else none
              | none => none
            ctl := { s.ctl with next := s.ctl.next.map recut, live := s.ctl.live.map recut,
                                stack := s.ctl.stack.map (Option.map recut) }
            eval := { s.eval with glyphs := [] } }.answered .ip .done [.num c, .num r]))

/-- R11, R12, R13: STEP_DROP takes the READY slot of its hour out of the Timeline: FREE with its generation kept when
nothing holds it, RETIRING with its contents otherwise. Publication makes a LOADING slot READY with its generation
one further, puts it in the Timeline at the place of its hour, and takes the READY slot of that hour out in the same
way. No other slot and no pin changes. The reply's state is its position in R4's list of the four slot states, the
model's choice of log entry 41. -/
def Obligations.TimelineTakesAndDropsHours : Prop :=
  (∀ (h : Nat) (s : State), s.resetLine = false →
     (240 < h → exec (.stepDrop h) s = .next (s.answered .ip .badHour []))
     ∧ (h ≤ 240 → s.FieldSound → (∀ i, (s.field.slot i).state = .ready → (s.field.slot i).hour ≠ some h) →
         exec (.stepDrop h) s = .next (s.answered .ip .noStep []))
     ∧ (∀ i, s.FieldSound → (s.field.slot i).state = .ready → (s.field.slot i).hour = some h →
         let x := s.field.slot i
         let left := s.field.timeline.filter fun j => j ≠ i
         let emptied : Slot := { Slot.initial with generation := x.generation }
         let kept : Slot := { x with state := .retiring }
         (x.pins = 0 → exec (.stepDrop h) s = .next
           (State.answered { s with field := { s.field with timeline := left, slots := s.field.slots.set i emptied } }
             .ip .done [.num (i : Nat), .octet 0]))
         ∧ (1 ≤ x.pins → exec (.stepDrop h) s = .next
           (State.answered { s with field := { s.field with timeline := left, slots := s.field.slots.set i kept } }
             .ip .done [.num (i : Nat), .octet 3]))))
  ∧ (∀ (s : State) (l : OpenLoad), s.FieldSound → s.ingest.load = some l →
       let f := s.field
       let g := s.field.publish l.slot
       g.grid = f.grid
       ∧ g.slot l.slot = { f.slot l.slot with state := .ready,
                                              generation := ((f.slot l.slot).generation + 1) % 256 }
       ∧ (∀ j, (f.slot j).state = .ready → (f.slot j).hour = some l.hour →
           g.slot j = if (f.slot j).pins = 0 then { Slot.initial with generation := (f.slot j).generation }
                      else { f.slot j with state := .retiring })
       ∧ (∀ j, j ≠ l.slot → ¬ ((f.slot j).state = .ready ∧ (f.slot j).hour = some l.hour) → g.slot j = f.slot j)
       ∧ g.timeline.Pairwise (fun i j => g.hourOf i < g.hourOf j)
       ∧ ∀ j, j ∈ g.timeline ↔ j = l.slot ∨ (j ∈ f.timeline ∧ (f.slot j).hour ≠ some l.hour))

/-- R24, R25, R7: the checks of STEP_OPEN in their order, and the load it opens in the lowest-numbered FREE slot,
emptied of everything but its generation. Its warning list is cleaned to the first eight distinct numbers of 1..31 in
their request order; a number out of range is counted as a clamp, and so is every occurrence of a number in range
that is not kept. -/
def Obligations.StepOpenOpensLoad : Prop :=
  (∀ (h code : Nat) (ws : List Nat) (s : State), s.resetLine = false →
     (2 < code ∨ 16 < ws.length → exec (.stepOpen h code ws) s = .next (s.answered .ip .badLength []))
     ∧ (code ≤ 2 → ws.length ≤ 16 →
       (s.field.grid = none → exec (.stepOpen h code ws) s = .next (s.answered .ip .noGrid []))
       ∧ (s.field.grid ≠ none →
         (240 < h → exec (.stepOpen h code ws) s = .next (s.answered .ip .badHour []))
         ∧ (h ≤ 240 →
           (s.ingest.load ≠ none → exec (.stepOpen h code ws) s = .next (s.answered .ip .loadOpen []))
           ∧ (s.ingest.load = none →
             ((∀ i, (s.field.slot i).state ≠ .free) →
               exec (.stepOpen h code ws) s = .next (s.answered .ip .noSlot []))
             ∧ ∀ (i : SlotId) (fs : FieldSet), fieldSetOfCode code = some fs → (s.field.slot i).state = .free →
               (∀ j : SlotId, j < i → (s.field.slot j).state ≠ .free) →
               let kept := (cleanWarnings ws).1
               let clamps := (cleanWarnings ws).2
               let x : Slot :=
                 { state := .loading, hour := some h, fieldSet := some fs,
                   generation := (s.field.slot i).generation, pins := 0, loaded := 0, warnings := kept, cells := [] }
               let l : OpenLoad :=
                 { phase := .opened, slot := i, hour := h, fieldSet := fs, clamps := clamps, misplaced := 0 }
               exec (.stepOpen h code ws) s = .next
                 (State.answered
                   { s with field := { s.field with slots := s.field.slots.set i x }
                            ingest := { s.ingest with load := some l } }
                   .ip (if 0 < clamps then .clamped else .done)
                   (.num (i : Nat) :: .octet kept.length :: kept.map fun n => .num (n : Nat))))))))
  ∧ (∀ ws : List Nat,
       let inRange := ws.filter fun n => decide (1 ≤ n ∧ n ≤ 31)
       let kept := (cleanWarnings ws).1
       kept = (inRange.reverse.dedup.reverse).take 8
       ∧ (cleanWarnings ws).2 = (ws.length - inRange.length) + (inRange.filter fun n => n ∉ kept).length)

/-- R26 to R29, R32: CELL_BLOCK and STEP_CLOSE append to the Ingest Queue of an OPEN load; an idle Assembler
outside DORMANT takes the entry at once, a block into its drain and a close to its judgement. -/
def Obligations.BlocksAndCloseAreQueued : Prop :=
  ∀ (row col n : Nat) (vs : List CellValue) (s : State), s.resetLine = false →
    (n < 1 ∨ 96 < n ∨ vs.length ≠ n → exec (.cellBlock row col n vs) s = .next (s.answered .ip .badLength []))
    ∧ ((∀ l, s.ingest.load = some l → l.phase ≠ .opened) →
        exec .stepClose s = .next (s.answered .ip .noLoad [])
        ∧ (1 ≤ n → n ≤ 96 → vs.length = n →
            exec (.cellBlock row col n vs) s = .next (s.answered .ip .noLoad [])))
    ∧ ∀ l, s.ingest.load = some l → l.phase = .opened →
      (64 ≤ s.ingest.queue.length →
        exec .stepClose s = .next (s.answered .ip .queueFull [])
        ∧ (1 ≤ n → n ≤ 96 → vs.length = n →
            exec (.cellBlock row col n vs) s = .next (s.answered .ip .queueFull [])))
      ∧ (s.ingest.queue.length < 64 →
        let b : CellBlock := { row := row, firstCol := col, count := n, values := vs }
        let closing : OpenLoad := { l with phase := .closing }
        (s.ingest.inFlight ≠ none ∨ s.output.mode = .dormant →
          exec .stepClose s = .next
            (State.answered
              { s with ingest := { s.ingest with load := some closing, queue := s.ingest.queue ++ [.close] } }
              .ip .accepted [])
          ∧ (1 ≤ n → n ≤ 96 → vs.length = n → exec (.cellBlock row col n vs) s = .next
            (State.answered { s with ingest := { s.ingest with queue := s.ingest.queue ++ [.block b] } }
              .ip .accepted [.num (s.ingest.queue.length + 1 : Nat)])))
        ∧ (s.ingest.inFlight = none → s.output.mode ≠ .dormant → s.ingest.queue = [] →
          (1 ≤ n → n ≤ 96 → vs.length = n → exec (.cellBlock row col n vs) s = .next
            (State.answered { s with ingest := { s.ingest with inFlight := some b } } .ip .accepted [.num 1]))
          ∧ ∀ g, s.field.grid = some g →
            let x := s.field.slot l.slot
            let c := x.loaded * 100 / (g.columns * g.rows)
            let emptied : Slot := { Slot.initial with generation := x.generation }
            let rejected : LoadResult :=
              { outcome := .rejected, hour := l.hour, slot := l.slot, coverage := some c, generation := none,
                clamps := l.clamps, misplaced := l.misplaced }
            (c < s.feed.coverageMin → exec .stepClose s = .next
              (({ s with
                  field := { s.field with slots := s.field.slots.set l.slot emptied }
                  ingest := { s.ingest with load := none, lastLoad := some rejected }
                }.raise .loadRejected).answered .ip .accepted []))
            ∧ (s.feed.coverageMin ≤ c → exec .stepClose s = .next
              ((({ s with
                  field := s.field.publish l.slot
                  ingest := { s.ingest with
                    load := none
                    lastLoad := some { rejected with
                      outcome := .published
                      generation := some ((s.field.publish l.slot).slot l.slot).generation } }
                }.raise .loadPublished).raiseIf (decide (x.warnings ≠ [])) .warningInData).answered
                  .ip .accepted []))))

/-- R29, R30, R31, R35, R6: the completion of a drain. A cancelled load ends there with the block discarded; a block
outside the grid is misplaced and an errored record; a placed block is written cell by cell, each value adjusted (a part
outside the load's field set dropped, a number out of range set to the nearer limit) and each adjustment counted, u and
v separately. An Assembler left idle outside DORMANT then takes the head entry, a block into its drain
and the close to its judgement. -/
def Obligations.DrainCompletes : Prop :=
  (∀ (b : CellBlock) (l : OpenLoad) (g : Grid) (s : State), s.resetLine = false →
     s.ingest.inFlight = some b → s.ingest.load = some l → s.field.grid = some g →
     let x := s.field.slot l.slot
     let idle : Ingest := { s.ingest with inFlight := none }
     let placed := b.row < g.rows ∧ b.firstCol + b.count ≤ g.columns
     let emptied : Slot := { Slot.initial with generation := x.generation }
     (l.phase = .cancelling → exec .drainCompletion s = .next
       { s with
         field := { s.field with slots := s.field.slots.set l.slot emptied }
         ingest := { idle with
           load := none
           lastLoad := some { outcome := .cancelled, hour := l.hour, slot := l.slot, coverage := none,
                              generation := none, clamps := l.clamps, misplaced := l.misplaced } } })
     ∧ (l.phase ≠ .cancelling → ¬ placed → exec .drainCompletion s = .next
         { s with ingest := { idle with load := some { l with misplaced := min 65535 (l.misplaced + 1) } }
           }.erroredRecord.takeHead)
     ∧ (l.phase ≠ .cancelling → placed → g.columns ≤ 96 → s.CellsSound → b.values.length = b.count →
         let near (lo hi i : Int) : Int := max lo (min hi i)
         let beyond (lo hi i : Int) : Nat := if i < lo ∨ hi < i then 1 else 0
         let adjusted (v : CellValue) : CellValue :=
           { wind := if l.fieldSet = .tide then none
               else v.wind.map fun w => { u := near (-1500) 1500 w.u, v := near (-1500) 1500 w.v }
             tide := if l.fieldSet = .wind then none else v.tide.map (near (-1000) 2000) }
         let adjustments (v : CellValue) : Nat :=
           (match v.wind with
             | none => 0
             | some w => if l.fieldSet = .tide then 1 else beyond (-1500) 1500 w.u + beyond (-1500) 1500 w.v)
           + match v.tide with
             | none => 0
             | some h => if l.fieldSet = .wind then 1 else beyond (-1000) 2000 h
         let n := (b.values.map adjustments).sum
         ∃ m : Store CellValue,
           exec .drainCompletion s = .next
             { s with
               field := { s.field with slots := s.field.slots.set l.slot { x with cells := m, loaded := m.length } }
               ingest := { idle with load := some { l with clamps := min 65535 (l.clamps + n) } } }.takeHead
           ∧ storeWf absentCell m
           ∧ ∀ c r, c < 96 → storeGet absentCell (cellKey c r) m
               = if r = b.row ∧ b.firstCol ≤ c ∧ c < b.firstCol + b.count then
                   adjusted (b.values.getD (c - b.firstCol) absentCell)
                 else storeGet absentCell (cellKey c r) x.cells))
  ∧ (∀ s : State,
       (s.ingest.inFlight ≠ none ∨ s.output.mode = .dormant ∨ s.ingest.queue = [] → s.takeHead = s)
       ∧ (s.ingest.inFlight = none → s.output.mode ≠ .dormant →
           (∀ b rest, s.ingest.queue = .block b :: rest →
             s.takeHead = { s with ingest := { s.ingest with queue := rest, inFlight := some b } })
           ∧ ∀ rest l g, s.ingest.queue = .close :: rest → s.ingest.load = some l → s.field.grid = some g →
               (s.takeHead.ingest.lastLoad.map fun r => r.outcome)
                 = some (if s.feed.coverageMin ≤ (s.field.slot l.slot).loaded * 100 / (g.columns * g.rows)
                     then .published else .rejected)
               ∧ s.takeHead.ingest.load = none ∧ s.takeHead.ingest.queue = rest))

/-- R34, R44, R170, R175: STEP_CANCEL and INGEST_RESET end an OPEN or CLOSING load at once when no drain is in
flight and make it CANCELLING otherwise. INGEST_RESET also clears its port's record and counts first, zeroes
the counts of the Feed Monitor, begins a window, restarts the stale timer and restores a DEGRADED feed. -/
def Obligations.CancelAndIngestReset : Prop :=
  ∀ s : State, s.resetLine = false →
    let emptied (l : OpenLoad) : Slot := { Slot.initial with generation := (s.field.slot l.slot).generation }
    let cancelled (l : OpenLoad) (t : State) : State :=
      { t with
        field := { t.field with slots := t.field.slots.set l.slot (emptied l) }
        ingest := { t.ingest with
          load := none
          queue := []
          lastLoad := some { outcome := .cancelled, hour := l.hour, slot := l.slot, coverage := none,
                             generation := none, clamps := l.clamps, misplaced := l.misplaced } } }
    let cancelling (l : OpenLoad) (t : State) : State :=
      { t with ingest := { t.ingest with load := some { l with phase := .cancelling }, queue := [] } }
    let cleared := s.modifyPort .ip fun x =>
      { x with record := NoticeRecord.empty, linkErrors := 0, overruns := 0 }
    let zeroed (f : FeedMonitor) : FeedMonitor :=
      { f with windowCount := 0, lastWindow := 0, continuous := 0, elapsed := 0, staleSeconds := 0,
               staleRunning := true }
    let restarted (t : State) : State :=
      if t.feed.state = .degraded then
        State.raise { t with feed := { zeroed t.feed with state := .good } } .feedRestored
      else { t with feed := zeroed t.feed }
    (s.ingest.load = none →
      exec .stepCancel s = .next (s.answered .ip .noLoad [])
      ∧ exec .ingestReset s = .next
          ((restarted { cleared with ingest := { s.ingest with queue := [] } }).answered .ip .done []))
    ∧ ∀ l, s.ingest.load = some l →
      (l.phase = .cancelling →
        exec .stepCancel s = .next (s.answered .ip .done [.octet 3])
        ∧ exec .ingestReset s = .next
            ((restarted { cleared with ingest := { s.ingest with queue := [] } }).answered .ip .done []))
      ∧ (l.phase ≠ .cancelling → s.ingest.inFlight = none →
          exec .stepCancel s = .next ((cancelled l s).answered .ip .done [.octet 0])
          ∧ exec .ingestReset s = .next ((restarted (cancelled l cleared)).answered .ip .done []))
      ∧ (l.phase ≠ .cancelling → s.ingest.inFlight ≠ none →
          exec .stepCancel s = .next ((cancelling l s).answered .ip .done [.octet 3])
          ∧ exec .ingestReset s = .next ((restarted (cancelling l cleared)).answered .ip .done []))

/-- R42: FEED_SETTINGS puts its adjusted fields in force, zeroes the counts, begins a window, restarts the stale
timer and restores a DEGRADED feed; an adjustment makes the outcome CLAMPED. -/
def Obligations.FeedSettingsTakeEffect : Prop :=
  ∀ (x : FeedFields) (s : State), s.resetLine = false →
    let f := s.feed
    let f' : FeedMonitor :=
      { state := if f.state = .degraded then .good else f.state
        window := match x.window with
          | none => f.window
          | some 0 => .oneSecond
          | some 1 => .tenSeconds
          | some 2 => .sixtySeconds
          | some 3 => .continuous
          | some _ => .tenSeconds
        targetM := (x.target.map fun p => min 15 p.1).getD f.targetM
        targetE := (x.target.map fun p => min 15 p.2).getD f.targetE
        coverageMin := (x.coverage.map fun n => min 100 n).getD f.coverageMin
        staleTimeout := (x.staleTimeout.map fun n => max 10 (min 600 n)).getD f.staleTimeout
        windowCount := 0, lastWindow := 0, continuous := 0, elapsed := 0, staleSeconds := 0
        staleRunning := true }
    let adjusted := (∃ c, x.window = some c ∧ 3 < c) ∨ (∃ m e, x.target = some (m, e) ∧ (15 < m ∨ 15 < e))
      ∨ (∃ n, x.coverage = some n ∧ 100 < n) ∨ ∃ n, x.staleTimeout = some n ∧ (n < 10 ∨ 600 < n)
    ∃ o : OutcomeCode, (o = .clamped ∨ o = .done) ∧ (o = .clamped ↔ adjusted)
      ∧ exec (.feedSettings x) s = .next
        (((State.raiseIf { s with feed := f' } (decide (f.state = .degraded)) .feedRestored)).answered .ip o
          [.octet (feedWindowCode f'.window), .num f'.targetM, .num f'.targetE, .num f'.coverageMin,
           .num f'.staleTimeout])

/-- R37 to R41: what an errored record counts, and what a good-check frame on the Ingest Port does to the stale timer
and a STALE feed. The value of a target pair, and the compact form of a count: the smallest exponent that holds it,
the quotient rounded up, never below the count up to 491,520 (log entry 32) and equal to it up to 15. -/
def Obligations.ErroredRecordsCounted : Prop :=
  (∀ s : State,
     let f := s.feed
     let n := min 16777215 (f.continuous + 1)
     let above := decide (f.targetM * 2 ^ f.targetE < n) && decide (f.state = .good)
     (f.window ≠ .continuous → s.erroredRecord
       = { s with feed := { f with windowCount := min 16777215 (f.windowCount + 1) } })
     ∧ (f.window = .continuous → s.erroredRecord
       = State.raiseIf { s with feed := { f with continuous := n, state := if above then .degraded else f.state } }
           above .feedErrors)
     ∧ s.goodIngestFrame
       = State.raiseIf
           { s with feed := { f with staleSeconds := 0, staleRunning := true,
                                     state := if f.state = .stale then .good else f.state } }
           (decide (f.state = .stale)) .feedRestored)
  ∧ ((∀ f : FeedMonitor, f.targetM ≤ 15 → f.targetE ≤ 15 →
       f.target = f.targetM * 2 ^ f.targetE ∧ f.target ≤ 491520)
     ∧ FeedMonitor.initial.target = 3
     ∧ compactPair 0 = (0, 0)
     ∧ ∀ n, 0 < n →
       let m := (compactPair n).1
       let e := (compactPair n).2
       m ≤ 15 ∧ e ≤ 15
       ∧ (n ≤ 491520 → n ≤ 15 * 2 ^ e ∧ (∀ k, k < e → 15 * 2 ^ k < n)
           ∧ n ≤ m * 2 ^ e ∧ (m - 1) * 2 ^ e < n)
       ∧ (n ≤ 15 → m * 2 ^ e = n)
       ∧ (491520 < n → m = 15 ∧ e = 15))

/-! ### Coastlines, the Area Map and the window cut -/

/-- R47, R61, R104: COAST_BEGIN empties the store, abandons every cut in flight, and answers a NEXT that was
waiting for one. -/
def Obligations.CoastBeginStartsLoad : Prop :=
  ∀ s : State, s.resetLine = false →
    let c : CoastStore := { state := .loading, vertices := [], polylines := [], marker := none }
    let abandon (x : Context) : Context :=
      if x.coast.cut = .cutting then { x with coast := { cut := .awaiting, pieces := [], overflow := 0 } } else x
    let waiting := s.ctl.next.any fun x => decide (x.prep = some .preparing)
    let answer (x : Context) : Context := if x.prep = some .preparing then { x with prep := some .ready } else x
    let ctl : ShowController :=
      { s.ctl with next := s.ctl.next.map fun x => answer (abandon x), live := s.ctl.live.map abandon,
                   stack := s.ctl.stack.map (Option.map abandon) }
    exec .coastBegin s = .next
      (State.answered (State.raiseIf { s with coast := c, ctl := ctl } waiting .nextReady) .dp .done
        [.octet 1, .num 0, .num 0])

/-- R50: COAST_END. The marker becomes absent and the state VALID; a store that is not LOADING refuses it and
changes nothing; a cut begins for every context that waits for the store. -/
def Obligations.CoastEndValidatesStore : Prop :=
  ∀ s : State, s.resetLine = false →
    (s.coast.state ≠ .loading → exec .coastEnd s = .next (s.answered .dp .noLoad []))
    ∧ (s.coast.state = .loading →
        let c : CoastStore := { s.coast with state := .valid, marker := none }
        let begin_ (x : Context) : Context :=
          if x.coast.cut = .awaiting then { x with coast := { cut := .cutting, pieces := [], overflow := 0 } }
          else x
        let ctl : ShowController :=
          { s.ctl with next := s.ctl.next.map begin_, live := s.ctl.live.map begin_,
                       stack := s.ctl.stack.map (Option.map begin_) }
        exec .coastEnd s = .next
          (State.answered { s with coast := c, ctl := ctl } .dp .done
            [.octet 2, .num c.polylines.length, .num c.vertices.length]))

/-- R48, R49: COAST_LINE. The checks of a NEW and of a CONTINUE part in their order, each refusal making the marker
absent. Taken, NEW appends the clamped vertices and a polyline, which the marker then names, and CONTINUE lengthens
the marked polyline by the clamped vertices. The reply's fields stand with R45's three values first, the model's
choice of log entry 17. -/
def Obligations.CoastLinePartsAppend : Prop :=
  (∀ (code : Nat) (closed : Bool) (vs : List Vertex) (s : State), s.resetLine = false →
     let c := s.coast
     let unmarked : State := { s with coast := { c with marker := none } }
     let run := exec (.coastLineNew code closed vs) s
     (2 < code ∨ vs.length < 2 ∨ 250 < vs.length → run = .next (unmarked.answered .dp .badLength []))
     ∧ ∀ k, lineKindOfCode code = some k → 2 ≤ vs.length → vs.length ≤ 250 →
       (c.state ≠ .loading → run = .next (unmarked.answered .dp .noLoad []))
       ∧ (c.state = .loading → 512 ≤ c.polylines.length ∨ 8192 < c.vertices.length + vs.length →
           run = .next (unmarked.answered .dp .coastFull []))
       ∧ (c.state = .loading → c.polylines.length < 512 → c.vertices.length + vs.length ≤ 8192 →
           let line : Polyline := { first := c.vertices.length, count := vs.length, kind := k, closed := closed }
           let c' : CoastStore :=
             { c with
               vertices := c.vertices ++ vs.map fun p =>
                 { x := max 0 (min 1535 p.x), y := max 0 (min 1023 p.y) }
               polylines := c.polylines ++ [line]
               marker := some c.polylines.length }
           let n := (vs.filter fun p => decide (p.x < 0 ∨ 1535 < p.x)).length
             + (vs.filter fun p => decide (p.y < 0 ∨ 1023 < p.y)).length
           run = .next (State.answered { s with coast := c' } .dp (if 0 < n then .clamped else .done)
             [.octet 1, .num (c.polylines.length + 1 : Nat), .num (c.vertices.length + vs.length : Nat), .num n,
              .num c.polylines.length, .num vs.length])))
  ∧ (∀ (vs : List Vertex) (s : State), s.resetLine = false →
       let c := s.coast
       let unmarked : State := { s with coast := { c with marker := none } }
       let run := exec (.coastLineContinue vs) s
       (vs.length < 1 ∨ 250 < vs.length → run = .next (unmarked.answered .dp .badLength []))
       ∧ (1 ≤ vs.length → vs.length ≤ 250 →
         (c.state ≠ .loading ∨ c.marker = none → run = .next (unmarked.answered .dp .noLoad []))
         ∧ ∀ i p, c.state = .loading → c.marker = some i → c.polylines[i]? = some p →
           (1024 < p.count + vs.length → run = .next (unmarked.answered .dp .badLength []))
           ∧ (p.count + vs.length ≤ 1024 → 8192 < c.vertices.length + vs.length →
               run = .next (unmarked.answered .dp .coastFull []))
           ∧ (p.count + vs.length ≤ 1024 → c.vertices.length + vs.length ≤ 8192 →
               let c' : CoastStore :=
                 { c with
                   vertices := c.vertices ++ vs.map fun p =>
                     { x := max 0 (min 1535 p.x), y := max 0 (min 1023 p.y) }
                   polylines := c.polylines.set i { p with count := p.count + vs.length } }
               let n := (vs.filter fun p => decide (p.x < 0 ∨ 1535 < p.x)).length
                 + (vs.filter fun p => decide (p.y < 0 ∨ 1023 < p.y)).length
               run = .next (State.answered { s with coast := c' } .dp (if 0 < n then .clamped else .done)
                 [.octet 1, .num c.polylines.length, .num (c.vertices.length + vs.length : Nat), .num i,
                  .num (p.count + vs.length : Nat), .num n]))))

/-- R52, R53: AREA_MAP_BEGIN makes a PRESENT map of the grid's dimensions, sea with area 0 everywhere, and
AREA_MAP_ROW writes its segment of a row and nothing else, an area number above 31 written as 0. -/
def Obligations.AreaMapIsWritten : Prop :=
  ∀ s : State, s.resetLine = false →
    (∀ c r, (s.field.grid = none → exec (.areaMapBegin c r) s = .next (s.answered .dp .noGrid []))
      ∧ ∀ g, s.field.grid = some g →
        (c ≠ g.columns ∨ r ≠ g.rows → exec (.areaMapBegin c r) s = .next (s.answered .dp .gridMismatch []))
        ∧ (c = g.columns → r = g.rows → exec (.areaMapBegin c r) s = .next
            (State.answered { s with areaMap := some { columns := c, rows := r, cells := [] } } .dp .done [])))
    ∧ ∀ (row col n : Nat) (es : List MapEntry),
      let run := exec (.areaMapRow row col n es) s
      (n < 1 ∨ 96 < n ∨ es.length ≠ n → run = .next (s.answered .dp .badLength []))
      ∧ (1 ≤ n → n ≤ 96 → es.length = n →
        (s.areaMap = none → run = .next (s.answered .dp .noLoad []))
        ∧ ∀ m, s.areaMap = some m →
          (m.rows ≤ row ∨ m.columns < col + n → run = .next (s.answered .dp .gridMismatch []))
          ∧ (row < m.rows → col + n ≤ m.columns → m.columns ≤ 96 →
              let capped := (es.filter fun e => decide (31 < e.area)).length
              ∃ cells : Store MapEntry,
                run = .next (State.answered { s with areaMap := some { m with cells := cells } } .dp
                  (if 0 < capped then .clamped else .done) [.num capped])
                ∧ (storeWf seaCell m.cells → storeWf seaCell cells)
                ∧ ∀ x y, x < 96 → mapEntry (some { m with cells := cells }) x y
                    = if y = row ∧ col ≤ x ∧ x < col + n then
                        let e := es.getD (x - col) seaCell
                        { area := if 31 < e.area then 0 else e.area, land := e.land }
                      else mapEntry (some m) x y))

/-- R57 to R60, R104: the completion of a cut gives its context the pieces of the store in its window, the first 4096
of them, and the number dropped; a PREPARING NEXT becomes READY. With no cut in flight in that place there is none
to complete (log entry 2). R46, R58: the pieces are, polyline by polyline in load order and segment by segment, the
closing segment last, those segments that survive the clipping against the left, right, top and bottom edges with two
different ends; a segment across an edge line keeps its inside end and gains the point on the line whose quotient is
rounded to nearest, half away from zero. A piece lies inside the cut rectangle, and a segment that lies wholly inside
it is kept as it stands. -/
def Obligations.CutFillsCutList : Prop :=
  (∀ s : State, s.resetLine = false →
     let cut (x : Context) : Context :=
       { x with coast := { cut := .done, pieces := (allPieces s.coast x.window).take 4096,
                           overflow := (allPieces s.coast x.window).length - 4096 } }
     (∀ place, (∀ x, s.ctl.at place = some x → x.coast.cut ≠ .cutting) →
       exec (.windowCutCompletion place) s = .next s)
     ∧ (∀ x, s.ctl.live = some x → x.coast.cut = .cutting → exec (.windowCutCompletion .live) s
         = .next { s with ctl := { s.ctl with live := some (cut x) } })
     ∧ (∀ i x, s.ctl.stack[i]? = some (some x) → x.coast.cut = .cutting →
         exec (.windowCutCompletion (.stack i)) s
           = .next { s with ctl := { s.ctl with stack := s.ctl.stack.set i (some (cut x)) } })
     ∧ (∀ x, s.ctl.next = some x → x.coast.cut = .cutting →
         let y : Context := { cut x with prep := if x.prep = some .preparing then some .ready else x.prep }
         exec (.windowCutCompletion .next) s
           = .next (State.raiseIf { s with ctl := { s.ctl with next := some y } }
               (decide (x.prep = some .preparing)) .nextReady)))
  ∧ ((∀ (c : CoastStore) (w : ChartWindow),
       let left : Int := 16 * (w.col : Int)
       let right : Int := 16 * ((w.col : Int) + w.width) - 1
       let top : Int := 16 * (w.row : Int)
       let bottom : Int := 16 * ((w.row : Int) + w.height) - 1
       let inside (p : Vertex) : Prop := left ≤ p.x ∧ p.x ≤ right ∧ top ≤ p.y ∧ p.y ≤ bottom
       let clip (g : Segment) : Option Segment :=
         (((clipX (fun x => left ≤ x) left g).bind (clipX (fun x => x ≤ right) right)).bind
           (clipY (fun y => top ≤ y) top)).bind (clipY (fun y => y ≤ bottom) bottom)
       let segments (l : Polyline) : List Segment :=
         let vs := (c.vertices.drop l.first).take l.count
         vs.zip vs.tail ++ match vs with
           | a :: _ :: b :: rest => if l.closed then [((b :: rest).getLast (by simp), a)] else []
           | _ => []
       let pieces (l : Polyline) (i : Nat) : List Piece :=
         (segments l).filterMap fun g => (clip g).bind fun h =>
           if h.1 = h.2 then none else some { kind := l.kind, polyline := i, start := h.1, finish := h.2 }
       allPieces c w = c.polylines.zipIdx.flatMap (fun x => pieces x.1 x.2)
       ∧ (∀ p ∈ allPieces c w, inside p.start ∧ inside p.finish ∧ p.start ≠ p.finish
         ∧ ∃ l, c.polylines[p.polyline]? = some l ∧ l.kind = p.kind)
       ∧ (∀ a b, inside a → inside b → clip (a, b) = some (a, b))
       ∧ ((w.width = 0 ∨ w.height = 0) → allPieces c w = []))
     ∧ ∀ (inside : Int → Bool) (e : Int) (a b : Vertex),
       let rounded (n d q : Int) : Prop :=
         2 * (n - q * d).natAbs ≤ d.natAbs ∧ (2 * (n - q * d).natAbs = d.natAbs → n.natAbs < (q * d).natAbs)
       (inside a.x = true → inside b.x = true → clipX inside e (a, b) = some (a, b))
       ∧ (inside a.x = false → inside b.x = false → clipX inside e (a, b) = none)
       ∧ (inside a.x ≠ inside b.x → ∃ q, rounded ((b.y - a.y) * (e - a.x)) (b.x - a.x) q
           ∧ clipX inside e (a, b) = some (if inside a.x then (a, ⟨e, a.y + q⟩) else (⟨e, a.y + q⟩, b)))
       ∧ (inside a.y = true → inside b.y = true → clipY inside e (a, b) = some (a, b))
       ∧ (inside a.y = false → inside b.y = false → clipY inside e (a, b) = none)
       ∧ (inside a.y ≠ inside b.y → ∃ q, rounded ((b.x - a.x) * (e - a.y)) (b.y - a.y) q
           ∧ clipY inside e (a, b) = some (if inside a.y then (a, ⟨a.x + q, e⟩) else (⟨a.x + q, e⟩, b))))

/-! ### Evaluation -/

/-- R70, R71, R72, R74: the speed of a wind is its larger component and three eighths of its smaller, and its raw
force band counts the thresholds at most that speed. It is CALM exactly at speed 0; otherwise its fine class follows
from those two components and its sector from R72's table by the dominant axis, the signs and the class; the sector is
one of sixteen, and each quarter turn of the wind (the new u the old v, the new v the negated old u) adds four
sectors. -/
def Obligations.SpeedBandAndSector : Prop :=
  (∀ x : Wind,
     let M := max x.u.natAbs x.v.natAbs
     let m := min x.u.natAbs x.v.natAbs
     let s := windSpeed x
     s = M + (3 * m) / 8
     ∧ (s = 0 ↔ x.u = 0 ∧ x.v = 0)
     ∧ (m = 0 → s = M)
     ∧ 64 * s ^ 2 ≤ 73 * (x.u.natAbs ^ 2 + x.v.natAbs ^ 2)
     ∧ (x.u.natAbs ≤ 1500 → x.v.natAbs ≤ 1500 → s ≤ 2062)
     ∧ (x.u.natAbs = 1500 → x.v.natAbs = 1500 → s = 2062)
     ∧ ∀ b : BandSettings, b.Sound →
       let r := rawForceBand b x
       r = (b.force.filter fun t => decide (t ≤ s)).length ∧ r ≤ 12
       ∧ b.force.take r = b.force.filter (fun t => decide (t ≤ s))
       ∧ (r = 0 ↔ ∀ t, b.force[0]? = some t → s < t)
       ∧ (r = 12 ↔ ∀ t, b.force[11]? = some t → t ≤ s))
  ∧ (∀ x : Wind,
       (windDirection x = .calm ↔ x.u = 0 ∧ x.v = 0)
       ∧ (¬ (x.u = 0 ∧ x.v = 0) → ∃ k, k < 16 ∧ windDirection x = .sector k
           ∧ windDirection { u := x.v, v := -x.u } = .sector ((k + 4) % 16))
       ∧ (let M := max x.u.natAbs x.v.natAbs
          let m := min x.u.natAbs x.v.natAbs
          let k := if 5 * m < M then 0 else if 3 * m < 2 * M then 1 else 2
          (x.u.natAbs ≤ x.v.natAbs →
            (0 < x.v → 0 ≤ x.u → windDirection x = .sector k)
            ∧ (0 < x.v → x.u < 0 → windDirection x = .sector ((16 - k) % 16))
            ∧ (x.v < 0 → 0 < x.u → windDirection x = .sector (8 - k))
            ∧ (x.v < 0 → x.u ≤ 0 → windDirection x = .sector (8 + k)))
          ∧ (x.v.natAbs < x.u.natAbs →
            (0 < x.u → 0 ≤ x.v → windDirection x = .sector (4 - k))
            ∧ (0 < x.u → x.v < 0 → windDirection x = .sector (4 + k))
            ∧ (x.u < 0 → 0 ≤ x.v → windDirection x = .sector (12 + k))
            ∧ (x.u < 0 → x.v < 0 → windDirection x = .sector (12 - k)))))

/-- R69, R75: the blend is the nearest whole number to the exact mixture, an exact half taken upward; it is the first
endpoint at weight 0 and lies between the two endpoints at every weight. The shown band lies between the two counts
made with the hysteresis, is the raw band when the memory is absent or the hysteresis is 0, and keeps the memory's
band while that lies between the two. -/
def Obligations.BlendAndShownBand : Prop :=
  (∀ (a b : Int) (w : Nat), w ≤ 255 →
     let x := blend a b w
     min a b ≤ x ∧ x ≤ max a b ∧ blend a b 0 = a
     ∧ -128 < 256 * (x - a) - (b - a) * w ∧ 256 * (x - a) - (b - a) * w ≤ 128)
  ∧ (∀ (ts : List Int) (h : Nat) (memory : Option Nat) (x : Int),
       let U := (ts.filter fun t => decide (t + h ≤ x)).length
       let D := (ts.filter fun t => decide (t - h ≤ x)).length
       let r := (ts.filter fun t => decide (t ≤ x)).length
       let shown := shownBand ts h memory x
       U ≤ r ∧ r ≤ D ∧ U ≤ shown ∧ shown ≤ D
       ∧ (memory = none → shown = r) ∧ (h = 0 → shown = r)
       ∧ (∀ p, memory = some p → shown = max U (min p D) ∧ (U ≤ p → p ≤ D → shown = p)))

/-- R67, R68, R81, R82, R147 and R83, R84: the result of one window cell: its endpoints by the endpoint table, its
trend from the unblended heights, nothing on land, and no wind where it is not evaluated for wind. The summary of an
area is made over the sea cells of the grid with its number: the number of those with wind, the largest of their raw
force bands, and its warned flag from the warning lists of the two slots. -/
def Obligations.CellResultByEndpoints : Prop :=
  (∀ (f : FieldStore) (x : EvalInputs) (e : Bool) (col row : Nat),
     let r := evaluateCell f x e col row
     let a := entryOf f x.slotA col row
     let b := entryOf f x.slotB col row
     r.col = col ∧ r.row = row ∧ r.windEvaluated = e
     ∧ r.area = (mapEntry x.areaMap col row).area ∧ r.land = (mapEntry x.areaMap col row).land
     ∧ (r.land = true → r.wind = none ∧ r.tideHeight = none ∧ r.trend = none)
     ∧ (e = false → r.wind = none)
     ∧ (r.land = false → e = true →
         (∀ p q, a.wind = some p → b.wind = some q →
           r.wind = some { u := blend p.u q.u x.weight, v := blend p.v q.v x.weight })
         ∧ (∀ p, a.wind = some p → b.wind = none → r.wind = some p)
         ∧ (∀ q, a.wind = none → b.wind = some q → r.wind = if 128 ≤ x.weight then some q else none)
         ∧ (a.wind = none → b.wind = none → r.wind = none))
     ∧ (r.land = false →
         (∀ p q, a.tide = some p → b.tide = some q →
           r.tideHeight = some (blend p q x.weight)
           ∧ ((q - p).natAbs ≤ x.bands.slack → r.trend = some .slack)
           ∧ (x.bands.slack < q - p → r.trend = some .rising)
           ∧ (x.bands.slack < p - q → r.trend = some .falling))
         ∧ (∀ p, a.tide = some p → b.tide = none → r.tideHeight = some p ∧ r.trend = none)
         ∧ (∀ q, a.tide = none → b.tide = some q →
             r.tideHeight = (if 128 ≤ x.weight then some q else none) ∧ r.trend = none)
         ∧ (a.tide = none → b.tide = none → r.tideHeight = none ∧ r.trend = none))
     ∧ (r.wind = none → r.speed = none ∧ r.direction = none ∧ r.rawForce = none ∧ r.shownForce = none)
     ∧ (∀ w, r.wind = some w → r.speed = some (windSpeed w) ∧ r.direction = some (windDirection w)
         ∧ r.rawForce = some (rawForceBand x.bands w)
         ∧ r.shownForce = some (shownBand x.bands.forceTable x.bands.forceHyst
             (storeGet absentGlyph (cellKey col row) x.glyphs).force (windSpeed w)))
     ∧ r.tideBand = r.tideHeight.map (bandOf x.bands.tide)
     ∧ r.shownTide = r.tideHeight.map (shownBand x.bands.tide x.bands.tideHyst
         (storeGet absentGlyph (cellKey col row) x.glyphs).tide))
  ∧ ∀ (f : FieldStore) (x : EvalInputs) (g : Option Grid) (area : Nat), 1 ≤ area →
    (∀ d, g = some d → d.columns ≤ 96) → (∀ m, x.areaMap = some m → storeWf seaCell m.cells) →
    let r (c : Nat × Nat) : CellResult := evaluateCell f x true c.1 c.2
    let y := areaSummary f x g area
    (∃ cs : List (Nat × Nat), cs.Nodup
      ∧ (∀ c, c ∈ cs ↔ (∃ d, g = some d ∧ c.1 < d.columns ∧ c.2 < d.rows)
          ∧ (r c).area = area ∧ (r c).land = false ∧ (r c).wind ≠ none)
      ∧ y.windCells = cs.length
      ∧ (y.maxBand = none ↔ cs = [])
      ∧ ∀ b, y.maxBand = some b ↔
          (∃ c ∈ cs, (r c).rawForce = some b) ∧ ∀ c ∈ cs, ∀ k, (r c).rawForce = some k → k ≤ b)
    ∧ (y.warned = true ↔ ∃ q : SlotRef, (x.slotA = some q ∨ x.slotB = some q) ∧ area ∈ (f.slot q.slot).warnings)

/-- R88, R89, R90: BANDS_WRITE refuses a list of the wrong length or a mode out of range and changes nothing; taken, it
stores every field present, adjusted, and keeps the rest, the Glyph Memory and the Area Alert Table included; the
outcome is CLAMPED exactly when a value stored differs from the value written. A written threshold list is adjusted
threshold by threshold, each raised above the final value of the one before it and lowered to the cap that leaves
room for the rest; the stored list is strictly ascending within its limits, and a list that already is, is stored
unchanged. The reply is the whole of BANDS_READ's, the Area Alert Table included (log entry 49). -/
def Obligations.BandsWriteStores : Prop :=
  (∀ (x : BandFields) (s : State), s.resetLine = false →
     let fit := (∀ l, x.force = some l → l.length = 12) ∧ (∀ l, x.tide = some l → l.length = 7)
       ∧ ∀ m, x.mode = some m → m ≤ 1
     let b := s.eval.bands
     let e : Evaluator :=
       { s.eval with
         bands :=
           { force := (x.force.map adjustForceList).getD b.force
             tide := (x.tide.map adjustTideList).getD b.tide
             forceHyst := (x.forceHyst.map fun h => min 50 h).getD b.forceHyst
             tideHyst := (x.tideHyst.map fun h => min 50 h).getD b.tideHyst
             slack := (x.slack.map fun h => min 100 h).getD b.slack
             galeBand := (x.galeBand.map fun g => max 1 (min 12 g)).getD b.galeBand }
         galeMode := match x.mode with
           | some 0 => .latched
           | some _ => .tracking
           | none => s.eval.galeMode }
     let differs := (∃ l, x.force = some l ∧ adjustForceList l ≠ l) ∨ (∃ l, x.tide = some l ∧ adjustTideList l ≠ l)
       ∨ (∃ h, x.forceHyst = some h ∧ 50 < h) ∨ (∃ h, x.tideHyst = some h ∧ 50 < h)
       ∨ (∃ h, x.slack = some h ∧ 100 < h) ∨ ∃ g, x.galeBand = some g ∧ (g = 0 ∨ 12 < g)
     (¬ fit → exec (.bandsWrite x) s = .next (s.answered .dp .badLength []))
     ∧ (fit → ∃ o : OutcomeCode, (o = .clamped ∨ o = .done) ∧ (o = .clamped ↔ differs)
         ∧ exec (.bandsWrite x) s = .next (State.answered { s with eval := e } .dp o (bandFieldsReply e))))
  ∧ ((∀ ts : List Nat, ts.length = 12 →
       let xs := adjustForceList ts
       xs.length = 12 ∧ xs.Pairwise (· < ·) ∧ (∀ x ∈ xs, 1 ≤ x ∧ x ≤ 2062)
       ∧ (∀ i, i < 12 → xs.getD i 0
           = min (max (ts.getD i 0) ((if i = 0 then 0 else xs.getD (i - 1) 0) + 1)) (2062 - (11 - i)))
       ∧ (ts.Pairwise (· < ·) → (∀ t ∈ ts, 1 ≤ t ∧ t ≤ 2062) → xs = ts))
     ∧ ∀ ts : List Int, ts.length = 7 →
       let xs := adjustTideList ts
       xs.length = 7 ∧ xs.Pairwise (· < ·) ∧ (∀ x ∈ xs, -1000 ≤ x ∧ x ≤ 2000)
       ∧ (∀ i, i < 7 → xs.getD i 0
           = min (max (ts.getD i 0) ((if i = 0 then -1001 else xs.getD (i - 1) 0) + 1)) (2000 - (6 - (i : Int))))
       ∧ (ts.Pairwise (· < ·) → (∀ t ∈ ts, -1000 ≤ t ∧ t ≤ 2000) → xs = ts))

/-! ### Pages, cues and the show context -/

/-- R93, R94: PAGE_WRITE adjusts each field, exchanges first and last hours that are out of order, and stores the
record whole; the outcome is CLAMPED exactly when a field stored differs from the field written. PAGE_LAYERS replaces
the layer set of every defined page its mask names, and counts the pages changed and the pages skipped. The record is
replied without the defined flag that R92 lists among its fields (log entry 19). -/
def Obligations.PagesAreWritten : Prop :=
  (∀ (n : Nat) (f : PageFields) (s : State), s.resetLine = false →
     let run := exec (.pageWrite n f) s
     (31 < n → run = .next (s.answered .dp .noPage []))
     ∧ ∀ h : n < 32,
       (2 < f.endCode → run = .next (s.answered .dp .badLength []))
       ∧ ∀ e, endActionOfCode f.endCode = some e →
         let first := min (min 240 f.first) (min 240 f.last)
         let last := max (min 240 f.first) (min 240 f.last)
         let p : Page :=
           { originCol := min 95 f.originCol, originRow := min 63 f.originRow
             width := max 4 (min 96 f.width), height := max 4 (min 64 f.height)
             stride := max 1 (min 4 f.stride), layers := f.layers, first := first, last := last
             framesPerStep := max 1 (min 250 f.framesPerStep), endAction := e
             start := f.start.map fun k => min last (max first (min 240 k)) }
         let same := p.originCol = f.originCol ∧ p.originRow = f.originRow ∧ p.width = f.width ∧ p.height = f.height
           ∧ p.stride = f.stride ∧ p.first = f.first ∧ p.last = f.last ∧ p.framesPerStep = f.framesPerStep
           ∧ p.start = f.start
         p.Sound
         ∧ ∃ o : OutcomeCode, (o = .clamped ∨ o = .done) ∧ (o = .done ↔ same)
           ∧ run = .next (State.answered
               { s with ctl := { s.ctl with pages := s.ctl.pages.set n (some p) } } .dp o
               (.num n :: pageRecordFields p)))
  ∧ (∀ (mask : BitVec 32) (l : LayerSet) (s : State), s.resetLine = false →
       let named : List PageId := (List.finRange 32).filter fun i => mask.getLsbD i
       let changed := (named.filter fun i => (s.ctl.page i).isSome).length
       ∃ pages : Vector (Option Page) 32,
         exec (.pageLayers mask l) s = .next (State.answered { s with ctl := { s.ctl with pages := pages } } .dp .done
           [.num changed, .num (named.length - changed : Nat)])
         ∧ ∀ i : PageId, pages[i]
             = if mask.getLsbD i then (s.ctl.page i).map fun p => { p with layers := l } else s.ctl.page i)

/-- R97: the window is first shrunk to the grid and then slid west and north until it lies inside; it has no cell
while the grid is UNDEFINED and is never empty on a DEFINED one; a context takes it at its build and at
GRID_DEFINE. -/
def Obligations.WindowClampedToGrid : Prop :=
  (∀ p : Page, clampWindow none p = { col := 0, row := 0, width := 0, height := 0 })
  ∧ (∀ (g : Grid) (p : Page),
      let w := clampWindow (some g) p
      w.width = min p.width g.columns ∧ w.height = min p.height g.rows
      ∧ w.col = min p.originCol (g.columns - w.width) ∧ w.row = min p.originRow (g.rows - w.height)
      ∧ w.col + w.width ≤ g.columns ∧ w.row + w.height ≤ g.rows
      ∧ (4 ≤ p.width → 4 ≤ p.height → 8 ≤ g.columns → 8 ≤ g.rows → 4 ≤ w.width ∧ 4 ≤ w.height)
      ∧ (p.originCol + p.width ≤ g.columns → w.col = p.originCol ∧ w.width = p.width)
      ∧ (p.originRow + p.height ≤ g.rows → w.row = p.originRow ∧ w.height = p.height))
  ∧ (∀ (s : State) (i : PageId) (p : Page) (o : Origin) (k : Option Nat),
      (s.buildContext i p o k).2.window = clampWindow s.field.grid p)
  ∧ ∀ (g : Option Grid) (c : CoastStore) (x : Context), (x.reclamp g c).window = clampWindow g x.copy

/-- R56, R96, R98: the build of a context. Step a is the first READY hour from the effective start on, step b the
next after it, both within the page's range, and each takes a pin; a cut is requested for it. -/
def Obligations.ContextBuilt : Prop :=
  ∀ (s : State) (i : PageId) (p : Page) (o : Origin) (k : Option Nat), s.FieldSound →
    let wanted := match k, p.start with
      | some h, _ => h
      | none, some h => h
      | none, none => p.first
    let start := min p.last (max p.first wanted)
    let x := (s.buildContext i p o k).2
    (s.buildContext i p o k).1 = s.field.takeAll (x.stepA.toList ++ x.stepB.toList)
    ∧ x.page = i ∧ x.origin = o ∧ x.copy = p ∧ x.startUsed = start ∧ x.phase = 0 ∧ x.ended = false ∧ x.prep = none
    ∧ x.coast = { cut := if s.coast.state = .valid then .cutting else .awaiting, pieces := [], overflow := 0 }
    ∧ (∀ a, x.stepA = some a ↔ s.field.IsFirstReady start p.last a)
    ∧ (∀ a, x.stepA = some a → ∀ b, x.stepB = some b ↔ s.field.IsFirstReady (a.hour + 1) p.last b)
    ∧ (x.stepA = none → x.stepB = none)

/-- R17, R18, R19: each take adds one to the pin count of its slot and each release takes one away; a RETIRING slot
whose count comes to 0 becomes FREE with its generation kept, and a slot that a move keeps does not. No take or
release touches the Timeline. -/
def Obligations.PinsFollowTakesAndReleases : Prop :=
  ∀ (f : FieldStore) (added removed : List SlotRef),
    let count (refs : List SlotRef) (j : SlotId) := (refs.filter fun r => r.slot = j).length
    (∀ j, (f.takeAll added).slot j = { f.slot j with pins := (f.slot j).pins + count added j })
    ∧ ((∀ j, count removed j ≤ (f.slot j).pins + count added j) → ∀ j,
        (f.move added removed).slot j
          = let x := f.slot j
            let n := x.pins + count added j - count removed j
            if x.state = .retiring ∧ 0 < count removed j ∧ n = 0
            then { Slot.initial with generation := x.generation } else { x with pins := n })
    ∧ (f.takeAll added).timeline = f.timeline ∧ (f.releaseAll removed).timeline = f.timeline
    ∧ (f.move added removed).timeline = f.timeline ∧ (f.move added removed).grid = f.grid

/-- R101, R103, R104: CUE is refused for an undefined page, an hour over 240 and a full queue; taken, it joins the
tail, and NEXT is built from it when NEXT was empty. NEXT is built from the head of the Cue Queue whenever it is
empty and the queue is not: READY at once, with NEXT_READY raised, where no cut begins, and CUE_EMPTY raised when
the queue empties. -/
def Obligations.CuesBuildNext : Prop :=
  (∀ (n : Nat) (k : Option Nat) (s : State), s.resetLine = false →
     let run := exec (.cue n k) s
     ((∀ i : PageId, i.val = n → s.ctl.page i = none) → run = .next (s.answered .dp .noPage []))
     ∧ ∀ (i : PageId) (p : Page), i.val = n → s.ctl.page i = some p →
       ((∃ h, k = some h ∧ 240 < h) → run = .next (s.answered .dp .badHour []))
       ∧ ((∀ h, k = some h → h ≤ 240) →
         (8 ≤ s.ctl.queue.length → run = .next (s.answered .dp .queueFull []))
         ∧ (s.ctl.queue.length < 8 →
           let e : CueEntry := { page := i, start := k }
           (∀ x, s.ctl.next = some x → run = .next (State.answered
             { s with ctl := { s.ctl with queue := s.ctl.queue ++ [e] } } .dp .done
             [.num (s.ctl.queue.length + 1 : Nat), .octet 0]))
           ∧ (s.ctl.next = none → s.ctl.queue = [] → run = .next
             ((State.buildNext { s with ctl := { s.ctl with queue := [e] } }).answered .dp .done
               [.num 0, .octet 1])))))
  ∧ (∀ s : State,
       (s.ctl.next ≠ none ∨ s.ctl.queue = [] → s.buildNext = s)
       ∧ ∀ e rest p, s.ctl.next = none → s.ctl.queue = e :: rest → s.ctl.page e.page = some p →
         let b := s.buildContext e.page p .cued e.start
         let cutting := decide (s.coast.state = .valid)
         let x : Context := { b.2 with prep := if s.coast.state = .valid then some .preparing else some .ready }
         s.buildNext = State.raiseIf (State.raiseIf
           { s with field := b.1, ctl := { s.ctl with queue := rest, next := some x } } (!cutting) .nextReady)
           (decide (rest = [])) .cueEmpty)

/-- R105: CUE_WITHDRAW is refused while NEXT is empty; otherwise it releases NEXT and builds it again from the head
of the queue. -/
def Obligations.CueWithdrawReleasesNext : Prop :=
  ∀ s : State, s.resetLine = false →
    (s.ctl.next = none → exec .cueWithdraw s = .next (s.answered .dp .nothingCued []))
    ∧ ∀ x, s.ctl.next = some x →
      let t := State.buildNext
        { s with field := s.field.releaseAll x.refs, ctl := { s.ctl with next := none } }
      exec .cueWithdraw s = .next (t.answered .dp .done
        (match t.ctl.next with
          | none => [.octet 0]
          | some y => [.octet 1, .num (y.page : Nat)]))

/-- R102 whole: CUE_CLEAR. -/
def Obligations.CueClearEmptiesQueue : Prop :=
  ∀ s : State, s.resetLine = false →
    exec .cueClear s = .next (State.answered { s with ctl := { s.ctl with queue := [] } } .dp .done
      [.num s.ctl.queue.length])

/-- R118, R122, R170, R175: HOLD sets the HOLD flag and RESUME clears it; DESK_RESET removes every cue, releases
NEXT, clears the flag, and clears the record and the counts of the Desk Port. Nothing else changes. -/
def Obligations.HoldResumeDeskReset : Prop :=
  ∀ s : State, s.resetLine = false →
    exec .hold s = .next (State.answered { s with ctl := { s.ctl with hold := true } } .dp .done [])
    ∧ exec .resume s = .next (State.answered { s with ctl := { s.ctl with hold := false } } .dp .done [])
    ∧ exec .deskReset s = .next (State.answered
        { s with
          field := s.field.releaseAll (contextRefs s.ctl.next)
          ctl := { s.ctl with queue := [], next := none, hold := false }
          ports := { s.ports with
            dp := { s.ports.dp with record := NoticeRecord.empty, linkErrors := 0, overruns := 0 } } }
        .dp .done [])

/-- R107, R109, R110: TAKE is refused with nothing cued or with an insert up; taken, LIVE is released, NEXT becomes
LIVE with its references, the Glyph Memory, the Area Alert Table and the HOLD flag are cleared, and NEXT is built
again. TAKE_FORCE releases the Insert Stack first, from the top down, and reports its depth. CLEAR releases LIVE and
every stacked context, clears the same three, and leaves NEXT and the Cue Queue; the next snapshot is an empty
page. -/
def Obligations.TakeAndClear : Prop :=
  (∀ s : State, s.resetLine = false →
     let taken (x : Context) (released : List SlotRef) : State :=
       State.buildNext
         { s with
           field := s.field.releaseAll released
           ctl := { s.ctl with next := none, live := some { x with prep := none }, stack := [], hold := false }
           eval := s.eval.cleared }
     let reply (x : Context) (t : State) : List Field :=
       [.num (x.page : Nat), .octet (cutStateCode x.coast.cut)] ++ match t.ctl.next with
         | none => [.octet 0]
         | some y => [.octet 1, .num (y.page : Nat)]
     (s.ctl.next = none →
       exec .take s = .next (s.answered .pp .nothingCued [])
       ∧ exec .takeForce s = .next (s.answered .pp .nothingCued []))
     ∧ ∀ x, s.ctl.next = some x →
       (s.ctl.stack ≠ [] → exec .take s = .next (s.answered .pp .insertActive []))
       ∧ (s.ctl.stack = [] →
           let t := taken x (contextRefs s.ctl.live)
           exec .take s = .next (t.answered .pp .done (reply x t)))
       ∧ (let t := taken x (s.ctl.stack.reverse.flatMap contextRefs ++ contextRefs s.ctl.live)
          exec .takeForce s = .next (t.answered .pp .done (reply x t ++ [.num s.ctl.stack.length]))))
  ∧ (∀ s : State, s.resetLine = false →
       let t : State :=
         { s with
           field := s.field.releaseAll (contextRefs s.ctl.live ++ s.ctl.stack.reverse.flatMap contextRefs)
           ctl := { s.ctl with live := none, stack := [], hold := false }
           eval := s.eval.cleared }
       exec .clear s = .next (t.answered .pp .done
         [.num (s.ctl.live.toList.length + (s.ctl.stack.filter Option.isSome).length : Nat)])
       ∧ t.snapshot.chart = none)

/-- R113, R115: INSERT pushes LIVE, an empty marker where it is empty, and puts the page it names to air with its
steps pinned and its cut requested; INSERT_END releases the insert and brings back the top of the stack. Both clear
the Glyph Memory and the Area Alert Table and keep the HOLD flag, NEXT and the Cue Queue. -/
def Obligations.InsertPushesAndPops : Prop :=
  ∀ (n : Nat) (s : State), s.resetLine = false →
    (2 ≤ s.ctl.stack.length → exec (.insert n) s = .next (s.answered .dp .stackFull []))
    ∧ (s.ctl.stack.length < 2 →
      ((∀ i : PageId, i.val = n → s.ctl.page i = none) → exec (.insert n) s = .next (s.answered .dp .noPage []))
      ∧ ∀ (i : PageId) (p : Page), i.val = n → s.ctl.page i = some p →
        let b := s.buildContext i p .insert none
        exec (.insert n) s = .next (State.answered
          { s with
            field := b.1
            ctl := { s.ctl with stack := s.ctl.stack ++ [s.ctl.live], live := some b.2 }
            eval := s.eval.cleared } .dp .done [.num n, .num (s.ctl.stack.length + 1 : Nat)]))
    ∧ (s.ctl.stack = [] → exec .insertEnd s = .next (s.answered .dp .stackEmpty []))
    ∧ ∀ rest top, s.ctl.stack = rest ++ [top] →
      exec .insertEnd s = .next (State.answered
        { s with
          field := s.field.releaseAll (contextRefs s.ctl.live)
          ctl := { s.ctl with live := top, stack := rest }
          eval := s.eval.cleared } .dp .done
        ((match top with
          | none => [.octet 0]
          | some y => [.octet 1, .num (y.page : Nat)]) ++ [.num rest.length]))

/-- R119: JUMP resolves LIVE's steps afresh from the hour it names, within the page's range, as one move of pins; the
phase becomes 0, the ended flag and the Glyph Memory are cleared; the Area Alert Table and the HOLD flag are kept. The
form of the reply is log entry 16's. -/
def Obligations.JumpResolvesLive : Prop :=
  ∀ (h : Nat) (s : State), s.resetLine = false →
    (240 < h → exec (.jump h) s = .next (s.answered .dp .badHour []))
    ∧ (h ≤ 240 →
      (s.ctl.live = none → exec (.jump h) s = .next (s.answered .dp .nothingLive []))
      ∧ ∀ x, s.ctl.live = some x → s.FieldSound →
        ∃ a b, exec (.jump h) s = .next (State.answered
            { s with
              field := s.field.move (a.toList ++ b.toList) (x.stepA.toList ++ x.stepB.toList)
              ctl := { s.ctl with live := some { x with stepA := a, stepB := b, phase := 0, ended := false } }
              eval := { s.eval with glyphs := [] } } .dp .done
            (match a, b with
              | none, _ => [.octet 0]
              | some r, none => [.octet 1, .num r.hour, .num (r.slot : Nat), .octet 0]
              | some r, some q =>
                [.octet 1, .num r.hour, .num (r.slot : Nat), .octet 1, .num q.hour, .num (q.slot : Nat)]))
          ∧ (∀ r, a = some r ↔ s.field.IsFirstReady (max h x.copy.first) x.copy.last r)
          ∧ (∀ r, a = some r → ∀ q, b = some q ↔ s.field.IsFirstReady (r.hour + 1) x.copy.last q)
          ∧ (a = none → b = none))

/-! ### Frame timing and animation -/

/-- R124, R136, R155, R158, R160: a frame start increments the frame count and notes its time; in REHEARSAL and
ON_AIR the Sequencer then advances LIVE and sends its snapshot; the Output Stage then shows the completed record,
if there is one, and chooses the fill by its table and the key by the mode. R143, R65, R63: what the snapshot holds,
copied from LIVE, and the takes on its slots, made with its arrival at the Composer. R156: what the rasterisation of a
record draws, layer by layer (log entry 26). -/
def Obligations.FrameStartDrivesOutput : Prop :=
  (∀ (s : State) (t : Nat),
     let n := (s.timing.frameCount + 1) % 4294967296
     let u : State := { s with timing := { s.timing with frameCount := n, lastFrameStart := some t, started := true } }
     let v := if s.output.mode = .rehearsal ∨ s.output.mode = .onAir then u.advance.sendSnapshot else u
     let o : OutputStage :=
       { v.output with shown := match v.composer.completed with
           | some r => some r
           | none => v.output.shown }
     let chart (r : Option FrameRecord) : Option RecordChart := r.bind fun x => x.chart
     let safeCard : Fill := match chart o.freeze with
       | some c => .freezeCard (rasterise c)
       | none => .stillCard (stillCoastline v)
     let fill : Fill :=
       if s.safeLine ∨ s.output.safeSet then safeCard
       else if s.output.lineup then .lineUpCard
       else if s.output.mode = .standby ∨ s.output.mode = .dormant then .transparent
       else match chart o.shown with
         | some c => .chart (rasterise c)
         | none => .transparent
     s.frameStart t
       = { v with
           composer := { v.composer with completed := none }
           output := { o with fill := fill, key := if s.output.mode = .onAir then .ofFill else .nothing } })
  ∧ (∀ s : State,
      let snapshot : Snapshot :=
        { frame := s.timing.frameCount
          chart := s.ctl.live.map fun x =>
            { page := x.page, copy := x.copy, window := x.window, slotA := x.stepA, slotB := x.stepB
              weight := x.phase * 256 / x.copy.framesPerStep
              ended := x.ended, starved := x.stepA.isNone, coastPending := decide (x.coast.cut ≠ .done)
              pieces := x.coast.pieces, overflow := x.coast.overflow } }
      let taken : List SlotRef := s.ctl.live.elim [] fun x => x.stepA.toList ++ x.stepB.toList
      s.sendSnapshot = State.snapshotArrives { s with field := s.field.takeAll taken } snapshot
      ∧ (s.ShowSound → ∀ c, snapshot.chart = some c →
          c.weight ≤ 255 ∧ (c.coastPending = true → c.pieces = [] ∧ c.overflow = 0)))
  ∧ ∀ (r : RecordChart) (k : DrawnMark), k ∈ rasterise r ↔
      match k with
      | .line p => p ∈ r.pieces ∧ (if p.kind = .areaBoundary then r.layers.areas else r.layers.coast) = true
      | .areaHighlight n gale warned => r.layers.areas = true ∧ (gale = true ∨ warned = true) ∧ 1 ≤ n ∧ n ≤ 31
          ∧ r.highlights[n - 1]? = some gale ∧ (r.summaries[n - 1]?.map fun y => y.warned) = some warned
      | .arrow col row sector band => r.layers.wind = true ∧ ∃ c ∈ r.cells, c.col = col ∧ c.row = row
          ∧ c.windEvaluated = true ∧ c.direction = some (.sector sector) ∧ band = c.shownForce.getD 0
      | .calmMark col row => r.layers.wind = true ∧ ∃ c ∈ r.cells, c.col = col ∧ c.row = row
          ∧ c.windEvaluated = true ∧ c.direction = some .calm
      | .tideColour col row band => r.layers.tide = true ∧ ∃ c ∈ r.cells, c.col = col ∧ c.row = row
          ∧ c.shownTide = some band
      | .trendMark col row rising => r.layers.trend = true ∧ ∃ c ∈ r.cells, c.col = col ∧ c.row = row
          ∧ c.trend = some (if rising then .rising else .falling)
      | .summaryPanel n y => r.layers.summaries = true ∧ r.level = 0 ∧ 1 ≤ n ∧ n ≤ 31 ∧ r.summaries[n - 1]? = some y
      | .feedMark => r.feedMark = true
      | .noDataMark => r.noData = true
      | .coastPendingMark => r.coastPending = true

/-- R117, R136 to R141, R65: the advance of LIVE, by exactly one of its rows: held or empty it stays; starved it is
resolved from the page's first hour; ended it is checked; otherwise its phase moves, and at F the step boundary
resolves the next pair of hours or takes the end action. -/
def Obligations.LiveAdvancesByOneRow : Prop :=
  ∀ s : State, s.FieldSound →
    let f := s.field
    (s.ctl.live = none ∨ s.ctl.hold = true → s.advance = s)
    ∧ ∀ x, s.ctl.live = some x → s.ctl.hold = false →
      let lo := x.copy.first
      let hi := x.copy.last
      let moved (a b : Option SlotRef) (ended : Bool) (phase : Nat) : State :=
        { s with
          field := f.move (a.toList ++ b.toList) (x.stepA.toList ++ x.stepB.toList)
          ctl := { s.ctl with live := some { x with stepA := a, stepB := b, phase := phase, ended := ended } } }
      let advances := x.copy.endAction = .advance ∧ s.ctl.stack = [] ∧
        ∃ n, s.ctl.next = some n ∧ n.prep = some .ready
      (x.stepA = none →
        ((∀ r, ¬ f.IsFirstReady lo hi r) → s.advance = s)
        ∧ ∀ a b, f.IsFirstReady lo hi a → (∀ r, b = some r ↔ f.IsFirstReady (a.hour + 1) hi r) →
          s.advance = moved (some a) b false 0)
      ∧ ∀ a, x.stepA = some a →
        (x.ended = true →
          (∀ b, f.IsFirstReady (a.hour + 1) hi b → s.advance = moved (some a) (some b) false x.phase)
          ∧ ((∀ r, ¬ f.IsFirstReady (a.hour + 1) hi r) →
            (advances → ∀ n, s.ctl.next = some n → s.advance = s.takeNext n)
            ∧ (¬ advances →
              (∀ r, f.IsFirstReady a.hour a.hour r → r.slot ≠ a.slot →
                s.advance = moved (some r) x.stepB true x.phase)
              ∧ ((∀ r, f.IsFirstReady a.hour a.hour r → r.slot = a.slot) → s.advance = s))))
        ∧ (x.ended = false →
          (x.phase + 1 < x.copy.framesPerStep →
            s.advance = { s with ctl := { s.ctl with live := some { x with phase := x.phase + 1 } } })
          ∧ (x.copy.framesPerStep ≤ x.phase + 1 →
            (∀ a' b', f.IsFirstReady (a.hour + 1) hi a' →
              (∀ r, b' = some r ↔ f.IsFirstReady (a'.hour + 1) hi r) → s.advance = moved (some a') b' false 0)
            ∧ ((∀ r, ¬ f.IsFirstReady (a.hour + 1) hi r) →
              (x.copy.endAction = .holdLast ∨ (x.copy.endAction = .advance ∧ ¬ advances) →
                s.advance = (moved (some a) none true 0).raise .pageEnded)
              ∧ (advances → ∀ n, s.ctl.next = some n → s.advance = s.takeNext n)
              ∧ (x.copy.endAction = .loop →
                ((∀ r, ¬ f.IsFirstReady lo hi r) → s.advance = moved none none false 0)
                ∧ ∀ a' b', f.IsFirstReady lo hi a' → (∀ r, b' = some r ↔ f.IsFirstReady (a'.hour + 1) hi r) →
                  s.advance = moved (some a') b' false 0))))

/-- R125 to R131, R134, R184: a FREF pulse, judged by the lock state with its time since the last pulse taken. In
DORMANT it wakes the generator into STANDBY and is not measured, its time being kept (log entry 13). A due time equal
to the present has not passed (log entry 12); a locking pulse with no frame start ever made makes one (log entry 14). The fill chosen at the waking is that of R155's
table, as SafeEnteredAndLeft writes it out. -/
def Obligations.PulseJudgedByLockState : Prop :=
  ∀ (t : Nat) (s : State), s.resetLine = false →
    let u := s.at t
    let x := s.timing
    let nominal := nominalPeriod x.rate
    let d (l : Nat) := u.now - l
    let good (l : Nat) : Prop := nominal ≤ d l + tolerance x.rate ∧ d l ≤ nominal + tolerance x.rate
    let run := exec (.frefPulse t) s
    (s.output.mode = .dormant → run = .next (State.refillKeyed (State.takeHead
      { u with
        timing := { x with lock := .freeRun, lastPulse := some u.now, nextDue := some (u.now + nominal),
                           started := false }
        output := { s.output with mode := .standby } })))
    ∧ (s.output.mode ≠ .dormant →
      (x.lock = .freeRun → run = .next
        { u with timing := { x with lock := .acquiring, goodIntervals := 0, holdover := 0,
                                    lastPulse := some u.now } })
      ∧ (∀ l, x.lock = .acquiring → x.lastPulse = some l →
        (¬ good l → run = .next { u with timing := { x with goodIntervals := 0, lastPulse := some u.now } })
        ∧ (good l → x.goodIntervals < 7 → run = .next
            { u with timing := { x with measured := d l, goodIntervals := x.goodIntervals + 1,
                                        lastPulse := some u.now } })
        ∧ (good l → x.goodIntervals = 7 →
          let locked (runts : Nat) : State :=
            State.raise { u with timing := { x with lock := .locked, measured := d l, goodIntervals := 8,
                                                    lastPulse := some u.now, nextDue := none, runts := runts } }
              .refLocked
          (∀ f, x.lastFrameStart = some f → u.now - f < halfPeriod x.rate →
            run = .next (locked (min 65535 (x.runts + 1))))
          ∧ ((∀ f, x.lastFrameStart = some f → halfPeriod x.rate ≤ u.now - f) →
            run = .next ((locked x.runts).frameStart u.now))))
      ∧ (∀ l, x.lock = .locked → x.lastPulse = some l →
        (d l < halfPeriod x.rate → run = .next
          { u with timing := { x with glitches := min 65535 (x.glitches + 1) } })
        ∧ (halfPeriod x.rate ≤ d l → good l → run = .next
            (State.frameStart { u with timing := { x with lastPulse := some u.now, measured := d l } } u.now))
        ∧ (halfPeriod x.rate ≤ d l → ¬ good l → run = .next
            (State.frameStart { u with timing := { x with lastPulse := some u.now } } u.now)))
      ∧ (x.lock = .holdover →
        let due := match x.lastFrameStart with
          | some f => if x.started then f + nominal else u.now + nominal
          | none => u.now + nominal
        let v (next : Nat) : State :=
          { u with timing := { x with lock := .acquiring, goodIntervals := 0, holdover := 0,
                                      lastPulse := some u.now, nextDue := some next } }
        (u.now ≤ due → run = .next (v due))
        ∧ (due < u.now → run = .next ((v (u.now + nominal)).frameStart u.now))))

/-- R126, R127, R130, R131: the internal frame start, made at the time it is due (log entry 7), with the next one
due a period later; the 250th of a holdover makes the lock state FREE_RUN; the silences of ACQUIRING and LOCKED. The
loss of the reference keeps the good-interval count (log entry 35), and an event that finds its timer not running
changes nothing (log entry 2). -/
def Obligations.TimebaseEvents : Prop :=
  ∀ s : State, s.resetLine = false →
    let x := s.timing
    let nominal := nominalPeriod x.rate
    (x.nextDue = none → exec .internalFrameStart s = .next s ∧ exec .holdoverEnd s = .next s)
    ∧ (¬ (x.lock = .holdover ∧ x.holdover = 249) → exec .holdoverEnd s = .next s)
    ∧ (∀ d, x.nextDue = some d →
      let u := s.at d
      (x.lock = .freeRun ∨ x.lock = .acquiring → exec .internalFrameStart s = .next
        (State.frameStart { u with timing := { x with nextDue := some (d + nominal) } } d))
      ∧ (x.lock = .holdover → x.holdover < 249 → exec .internalFrameStart s = .next
        (State.frameStart
          { u with timing := { x with holdover := x.holdover + 1, nextDue := some (d + x.measured) } } d))
      ∧ (x.lock = .holdover → x.holdover = 249 →
        let v := State.frameStart (State.raise
          { u with timing := { x with lock := .freeRun, holdover := 0, nextDue := some (d + nominal) } }
          .freeRun) d
        exec .internalFrameStart s = .next v ∧ exec .holdoverEnd s = .next v))
    ∧ (x.lock ≠ .acquiring → exec .acquiringSilenceExpiry s = .next s)
    ∧ (x.lock ≠ .locked → exec .refLost s = .next s)
    ∧ ∀ l, x.lastPulse = some l →
      let t := l + oneAndHalfPeriods x.rate
      let u := s.at t
      (x.lock = .acquiring → exec .acquiringSilenceExpiry s = .next
        (State.raise { u with timing := { x with lock := .freeRun, goodIntervals := 0 } } .freeRun))
      ∧ (x.lock = .locked → exec .refLost s = .next
        (State.frameStart (State.raise
          { u with timing := { x with lock := .holdover, holdover := 1, nextDue := some (t + x.measured) } }
          .refLost) t))

/-- R123, R133: the fixed figures of each rate, and REFERENCE_SET: the rate, the measured period and the counts; in
DORMANT nothing more, and otherwise ACQUIRING or FREE_RUN by the last pulse, with the next internal frame start due
one new period after the last, made at once where that has passed (log entries 12 and 15). The reply carries STOPPED,
in DORMANT, as the fifth lock state (log entry 18). -/
def Obligations.ReferenceSetChangesRate : Prop :=
  ([Rate.r25, .r30, .r50, .r60].map fun r => (nominalPeriod r, tolerance r, halfPeriod r, oneAndHalfPeriods r))
    = [(40000, 200, 20000, 60000), (33333, 166, 16666, 49999), (20000, 100, 10000, 30000), (16667, 83, 8333, 25000)]
  ∧ ∀ (code t : Nat) (s : State), s.resetLine = false →
    let u := s.at t
    let run := exec (.referenceSet code t) s
    (code ≠ 25 → code ≠ 30 → code ≠ 50 → code ≠ 60 → run = .next (u.answered .pp .badLength []))
    ∧ ∀ r, rateOfCode code = some r →
      let nominal := nominalPeriod r
      let x : FrameTiming :=
        { s.timing with rate := r, measured := nominal, goodIntervals := 0, holdover := 0 }
      (s.output.mode = .dormant → run = .next
        (State.answered { u with timing := x } .pp .done [.octet code, .octet 4]))
      ∧ (s.output.mode ≠ .dormant →
        let lock : LockState := match s.timing.lastPulse with
          | some l => if u.now - l ≤ oneAndHalfPeriods r then .acquiring else .freeRun
          | none => .freeRun
        let due := match s.timing.lastFrameStart with
          | some f => if s.timing.started then f + nominal else u.now + nominal
          | none => u.now + nominal
        let v (next : Nat) : State := { u with timing := { x with lock := lock, nextDue := some next } }
        let reply : List Field := [.octet code, .octet (if lock = .acquiring then 1 else 0)]
        (u.now ≤ due → run = .next ((v due).answered .pp .done reply))
        ∧ (due < u.now → run = .next (((v (u.now + nominal)).frameStart u.now).answered .pp .done reply)))

/-- R152, R153: the Load Governor. A third late outcome of the late window degrades and empties it; an on-time run of
250 recovers; the window keeps the fifty most recent outcomes. LATE_FRAMES and DETAIL_RECOVERED are the frame starts
whose outcome degrades or recovers (log entry 8): the frame start is made, internal or of an accepted pulse, the
governor steps and the notice is raised. Where the outcome would not be that one nothing is done. -/
def Obligations.GovernorJudgesFrames : Prop :=
  (∀ g : Governor, g.level ≤ 3 → g.window.length ≤ 50 → lateCount g.window ≤ 2 → g.run ≤ 249 →
     let pushed (o : FrameOutcome) := if g.window.length < 50 then g.window ++ [o] else g.window.tail ++ [o]
     (lateCount (pushed .late) ≤ 2 → g.late = ({ g with window := pushed .late, run := 0 }, false))
     ∧ (lateCount (pushed .late) = 3 →
         g.late = ({ level := min 3 (g.level + 1), window := [], run := 0 }, decide (g.level < 3)))
     ∧ (g.run < 249 → g.onTime = ({ g with window := pushed .onTime, run := g.run + 1 }, false))
     ∧ (g.run = 249 →
         g.onTime = ({ level := g.level - 1, window := pushed .onTime, run := 0 }, decide (0 < g.level))))
  ∧ (∀ (t : Nat) (s : State), s.resetLine = false → s.Bounded →
       let g := s.composer.governor
       let late := (s.output.mode = .rehearsal ∨ s.output.mode = .onAir) ∧ s.composer.composition ≠ none
         ∧ 3 ≤ lateCount (pushOutcome g.window .late)
       let recovered := (s.output.mode = .rehearsal ∨ s.output.mode = .onAir) ∧ s.composer.composition = none
         ∧ g.run = 249
       (¬ late → exec (.lateFrames t) s = .next s)
       ∧ (¬ recovered → exec (.detailRecovered t) s = .next s)
       ∧ ∀ v, (s.timing.lock ≠ .locked ∧ (∃ d, s.timing.nextDue = some d ∧ v = s.internalFrameStart d))
           ∨ (s.timing.lock = .locked ∧ (∃ l, s.timing.lastPulse = some l
               ∧ halfPeriod s.timing.rate ≤ (s.at t).now - l) ∧ v = (s.at t).pulse) →
         (late → exec (.lateFrames t) s = .next v
           ∧ v.composer.governor = { level := min 3 (g.level + 1), window := [], run := 0 }
           ∧ (g.level < 3 → ∀ p, (s.ports.get p).mask.timing ≠ .off → (v.ports.get p).record.lateFrames = true))
         ∧ (recovered → exec (.detailRecovered t) s = .next v
           ∧ v.composer.governor.level = g.level - 1 ∧ v.composer.governor.run = 0
           ∧ (0 < g.level → ∀ p, (s.ports.get p).mask.timing ≠ .off →
               (v.ports.get p).record.detailRecovered = true)))

/-! ### Composition, output and modes -/

/-- R143, R145, R146, R148, R149, R153, R77, R85, R87: a snapshot that finds the Composer idle starts a composition with its
inputs fixed as they stand after the governor's judgement; one that finds it composing is a late frame and waits in
the mailbox, where it displaces an older one, whose references are released. At a completion the record is placed,
one already there dropped and counted, the references released, the Glyph Memory written for the cells inside the
grid in force and the Area Alert Table set from the summaries; GALE_AREA is raised for an area newly in gale, and
withdrawn in TRACKING mode with none in gale; and the snapshot of the mailbox is begun. The record holds the fields of
R148, from the snapshot and from what the composition made. With no composition in progress there is none to complete
(log entry 2). -/
def Obligations.CompositionBeginsAndCompletes : Prop :=
  (∀ (s : State) (x : Snapshot),
     let c := s.composer
     (c.composition = none →
       let g := c.governor.onTime
       s.snapshotArrives x = State.raiseIf
         { s with composer := { c with
             governor := g.1
             composition := some { snapshot := x, bands := s.eval.bands, glyphs := s.eval.glyphs,
                                   areaMap := s.areaMap, grid := s.field.grid, level := g.1.level,
                                   feed := s.feed.state } } } g.2 .detailRecovered)
     ∧ (c.composition ≠ none →
       let g := c.governor.late
       let waiting (late : Nat) : Composer :=
         { c with governor := g.1, lateFrames := min 65535 (c.lateFrames + 1), mailbox := some x, late := late }
       (c.mailbox = none → s.snapshotArrives x
         = State.raiseIf { s with composer := waiting c.late } g.2 .lateFrames)
       ∧ ∀ old, c.mailbox = some old → s.snapshotArrives x = State.raiseIf
         { s with field := s.field.releaseAll old.refs, composer := waiting (min 65535 (c.late + 1)) }
         g.2 .lateFrames))
  ∧ (∀ s : State, s.resetLine = false →
       (s.composer.composition = none → exec .compositionCompletion s = .next s)
       ∧ ∀ x, s.composer.composition = some x →
         let sums := x.summaries s.field
         let alerts : Vector AlertState 31 := Vector.ofFn fun i =>
           if (sums[i.val]?).any fun a => a.maxBand.any fun b => x.bands.galeBand ≤ b then .gale else .quiet
         let glyphs := (x.cells s.field).foldl (writeGlyph s.field.grid) s.eval.glyphs
         let newly := decide (∃ i : Fin 31, s.eval.alerts[i] = .quiet ∧ alerts[i] = .gale)
         let calm := s.eval.galeMode = .tracking ∧ ∀ i : Fin 31, alerts[i] = .quiet
         let record : FrameRecord :=
           { frame := x.snapshot.frame
             chart := x.snapshot.chart.map fun y =>
               { page := y.page, layers := y.copy.layers, stride := y.copy.stride
                 hourA := y.slotA.map fun q => q.hour
                 hourB := y.slotB.map fun q => q.hour
                 weight := y.weight, level := x.level, window := y.window
                 cells := x.cells s.field, pieces := y.pieces, overflow := y.overflow
                 summaries := sums
                 highlights := sums.map fun a => a.maxBand.any fun b => x.bands.galeBand ≤ b
                 feedMark := decide (x.feed ≠ .good) && y.copy.layers.feedMark
                 noData := y.starved, coastPending := y.coastPending, ended := y.ended } }
         let c : Composer :=
           { s.composer with
             composition := none
             completed := some record
             dropped := if s.composer.completed = none then s.composer.dropped else min 65535 (s.composer.dropped + 1) }
         let u := State.raiseIf
           { s with field := s.field.releaseAll x.snapshot.refs, composer := c
                    eval := { s.eval with glyphs := glyphs, alerts := alerts } } newly .galeArea
         let v := if calm then u.withdrawGale else u
         (s.composer.mailbox = none → exec .compositionCompletion s = .next v)
         ∧ ∀ y, s.composer.mailbox = some y → exec .compositionCompletion s = .next
           { v with composer := { c with
               mailbox := none
               composition := some { snapshot := y, bands := s.eval.bands, glyphs := glyphs, areaMap := s.areaMap,
                                     grid := s.field.grid, level := s.composer.governor.level,
                                     feed := s.feed.state } } })

/-- R147, R148, R77, R82, R64, R66, R83: a composition evaluates the cells of its window at the page stride that lie in
its grid, in order of rows from the north and columns from the west, each against the inputs fixed at its beginning,
and each for wind at the wind stride of its level; it makes one summary for each area 1 to 31. An empty-page one
evaluates no cell and its summaries are empty. A glyph is written for each cell in the grid in force, its force band
kept where the wind was not evaluated (log entry 23). -/
def Obligations.CompositionCoversWindow : Prop :=
  ∀ (f : FieldStore) (x : Composition),
    (x.snapshot.chart = none → x.cells f = [] ∧ x.summaries f
      = List.replicate 31 { maxBand := none, windCells := 0, warned := false })
    ∧ ∀ c : SnapshotChart, x.snapshot.chart = some c →
    let at_ (col row : Nat) : Prop :=
      c.window.col ≤ col ∧ col < c.window.col + c.window.width
      ∧ c.window.row ≤ row ∧ row < c.window.row + c.window.height
      ∧ c.copy.stride ∣ col - c.window.col ∧ c.copy.stride ∣ row - c.window.row
      ∧ ∃ g, x.grid = some g ∧ col < g.columns ∧ row < g.rows
    let windStride := if x.level ≤ 1 then c.copy.stride else min 8 (2 * c.copy.stride)
    let inputs : EvalInputs :=
      { slotA := c.slotA, slotB := c.slotB, weight := c.weight, bands := x.bands, glyphs := x.glyphs
        areaMap := x.areaMap }
    (∀ col row, at_ col row ↔ ∃ r ∈ x.cells f, r.col = col ∧ r.row = row)
    ∧ (x.cells f).Pairwise (fun p q => p.row < q.row ∨ (p.row = q.row ∧ p.col < q.col))
    ∧ (∀ r ∈ x.cells f, r = evaluateCell f inputs r.windEvaluated r.col r.row
        ∧ (r.windEvaluated = true
          ↔ x.level ≤ 2 ∧ windStride ∣ r.col - c.window.col ∧ windStride ∣ r.row - c.window.row))
    ∧ x.summaries f = (List.range 31).map (fun i => areaSummary f inputs x.grid (i + 1))
    ∧ ∀ (g : Grid) (m : Store GlyphEntry) (r : CellResult) (col row : Nat),
      g.columns ≤ 96 → col < 96 → r ∈ x.cells f →
      storeGet absentGlyph (cellKey col row) (writeGlyph (some g) m r)
        = if col = r.col ∧ row = r.row ∧ col < g.columns ∧ row < g.rows then
            { force := if r.windEvaluated then r.shownForce
                       else (storeGet absentGlyph (cellKey col row) m).force
              tide := r.shownTide }
          else storeGet absentGlyph (cellKey col row) m

/-- R157, R158, R159: SAFE_SET stores its card choice and then its flag, and the SAFE line takes its level; an event
that makes safe hold raises SAFE_ENTERED, freezes the shown record under FREEZE and chooses the fill at once, one
that ends it raises SAFE_LEFT and empties the freeze record, and any other changes nothing more. R155, R160: the fill
chosen at once is that of R155's table, and the key is left (log entry 27), while a change of mode sets both; the
STILL card carries the whole polylines of a VALID store over a DEFINED grid, and the banner alone otherwise. -/
def Obligations.SafeEnteredAndLeft : Prop :=
  (∀ s : State, s.resetLine = false →
     let changed (line set : Bool) (card : Card) : State :=
       let u : State := { s with safeLine := line, output := { s.output with safeSet := set, card := card } }
       let frozen := if card = .freeze then s.output.shown.filter fun r => r.chart.isSome else none
       if (line || set) = (s.safeLine || s.output.safeSet) then u
       else if line || set then
         (State.raise { u with output := { u.output with freeze := frozen } } .safeEntered).refill
       else
         let v := State.raise { u with output := { u.output with freeze := none } } .safeLeft
         if s.output.mode = .dormant then v.refill else v
     (∀ b, exec (.safeLineChange b) s = .next (changed b s.output.safeSet s.output.card))
     ∧ (∀ flag card, 1 < flag ∨ (∃ c, card = some c ∧ 1 < c) →
         exec (.safeSet flag card) s = .next (s.answered .pp .badLength []))
     ∧ ∀ flag card, flag ≤ 1 → (∀ c, card = some c → c ≤ 1) →
       let choice : Card := match card with
         | none => s.output.card
         | some 0 => .still
         | some _ => .freeze
       exec (.safeSet flag card) s = .next ((changed s.safeLine (flag == 1) choice).answered .pp .done
         [.octet flag, .octet (if s.safeLine then 1 else 0), .octet (if s.safeLine ∨ flag = 1 then 1 else 0),
          .octet (if choice = .still then 0 else 1)]))
  ∧ (∀ s : State,
       let coastline : Option (Grid × List WholeLine) :=
         if s.coast.state = .valid then s.field.grid.map fun g =>
           (g, s.coast.polylines.map fun p =>
             { kind := p.kind, closed := p.closed, vertices := (s.coast.vertices.drop p.first).take p.count })
         else none
       let chart (r : Option FrameRecord) : Option RecordChart := r.bind fun x => x.chart
       let fill : Fill :=
         if s.safeLine ∨ s.output.safeSet then
           match chart s.output.freeze with
           | some c => .freezeCard (rasterise c)
           | none => .stillCard coastline
         else if s.output.lineup then .lineUpCard
         else if s.output.mode = .standby ∨ s.output.mode = .dormant then .transparent
         else match chart s.output.shown with
           | some c => .chart (rasterise c)
           | none => .transparent
       stillCoastline s = coastline
       ∧ s.refill = { s with output := { s.output with fill := fill } }
       ∧ s.refillKeyed = { s with output := { s.output with
           fill := fill, key := if s.output.mode = .onAir then .ofFill else .nothing } })

/-- R160, R183, R184, R134: LINEUP sets the line-up flag, ON being refused in ON_AIR; OUTPUT_MODE changes the mode,
turning the flag OFF into ON_AIR, stopping Frame Timing into DORMANT, and out of DORMANT starting it again with the
head entry taken; the mode already in force changes nothing. R155: in DORMANT a change of the line-up flag chooses the
fill at once, and a LINEUP that leaves the flag as it is does not. The reply carries STOPPED as the fifth lock state
(log entry 18); the last frame start is kept on entering DORMANT (log entry 35). The fill is that of R155's table, as
SafeEnteredAndLeft writes it out. -/
def Obligations.LineUpAndOutputMode : Prop :=
  ∀ (n t : Nat) (s : State), s.resetLine = false →
    (1 < n → exec (.lineup n) s = .next (s.answered .pp .badLength []))
    ∧ (s.output.mode = .onAir → exec (.lineup 1) s = .next (s.answered .pp .onAir []))
    ∧ (n ≤ 1 → (n = 1 → s.output.mode ≠ .onAir) →
        let v : State := { s with output := { s.output with lineup := n == 1 } }
        exec (.lineup n) s = .next
          ((if s.output.mode = .dormant ∧ s.output.lineup ≠ (n == 1) then v.refill else v).answered .pp .done
            [.octet n]))
    ∧ (3 < n → exec (.outputMode n t) s = .next ((s.at t).answered .pp .badLength []))
    ∧ ∀ m, modeOfCode n = some m →
      let u := s.at t
      let run := exec (.outputMode n t) s
      let lineup := if m = .onAir then false else s.output.lineup
      let lock := if m = .dormant then 4 else lockShownCode (lockShown s)
      (m = s.output.mode → run = .next (u.answered .pp .done [.octet n, .octet lock]))
      ∧ (m ≠ s.output.mode → m ≠ .dormant → s.output.mode ≠ .dormant → run = .next
          (State.answered { u with output := { s.output with mode := m, lineup := lineup } } .pp .done
            [.octet n, .octet lock]))
      ∧ (m ≠ s.output.mode → m = .dormant → run = .next
          (State.answered (State.refillKeyed
            { u with
              timing := { s.timing with lock := .freeRun, goodIntervals := 0, holdover := 0, nextDue := none }
              output := { s.output with mode := .dormant } }) .pp .done [.octet 3, .octet 4]))
      ∧ (m ≠ s.output.mode → s.output.mode = .dormant → run = .next
          (State.answered (State.refillKeyed (State.takeHead
            { u with
              timing := { s.timing with lock := .freeRun, started := false
                                        nextDue := some (u.now + nominalPeriod s.timing.rate) }
              output := { s.output with mode := m, lineup := lineup } })) .pp .done [.octet n, .octet 0]))

/-- R187, R134, R152, R154, R170, R175: PLAYOUT_RESET clears its port's record first, zeroes the counts, resets the
governor, sets SAFE_SET OFF, STILL and the line-up flag OFF with the leaving of safe that follows, and puts Frame
Timing in FREE_RUN; in DORMANT of Frame Timing the counts only (log entry 15), and the fill is chosen there only
where safe is left or the line-up flag was ON (R155). A next frame start due exactly at the request has not passed
(log entry 12); one that has passed is made at once, after the zeroing, so its outcome stands in the governor (log
entry 44). The fill chosen is that of R155's table, as SafeEnteredAndLeft writes it out. It keeps everything else. -/
def Obligations.PlayoutResetRestores : Prop :=
  ∀ (t : Nat) (s : State), s.resetLine = false →
    let u := s.at t
    let left := s.output.safeSet && !s.safeLine
    let cleared : State :=
      { u with
        ports := { s.ports with
          pp := { s.ports.pp with record := NoticeRecord.empty, linkErrors := 0, overruns := 0 } }
        composer := { s.composer with
          governor := { level := 0, window := [], run := 0 }, late := 0, lateFrames := 0, dropped := 0 }
        output := { s.output with safeSet := false, card := .still, lineup := false
                                  freeze := if left then none else s.output.freeze } }
    let v := State.raiseIf cleared left .safeLeft
    let counts : FrameTiming :=
      { s.timing with goodIntervals := 0, holdover := 0, glitches := 0, runts := 0 }
    let nominal := nominalPeriod s.timing.rate
    let free : FrameTiming := { counts with lock := .freeRun, measured := nominal, lastPulse := none }
    let due := match s.timing.lastFrameStart with
      | some f => if s.timing.started then f + nominal else u.now + nominal
      | none => u.now + nominal
    let run := exec (.playoutReset t) s
    (s.output.mode = .dormant → run = .next
      (State.answered { (if left = true ∨ s.output.lineup = true then v.refill else v) with timing := counts }
        .pp .done []))
    ∧ (s.output.mode ≠ .dormant →
      (s.timing.lock = .freeRun ∨ s.timing.lock = .acquiring → run = .next
        (State.answered { v with timing := free } .pp .done []))
      ∧ (s.timing.lock = .locked ∨ s.timing.lock = .holdover →
        (u.now ≤ due → run = .next
          (State.answered { v with timing := { free with nextDue := some due } } .pp .done []))
        ∧ (due < u.now → run = .next
          (State.answered (State.frameStart
            { v with timing := { free with nextDue := some (u.now + nominal) } } u.now) .pp .done []))))
end

