-- ==== Sys2Proof/Laws/Slots.lean ====
section
/-! SUPPORT. The laws of the step slots: what each take, release, move, publication and withdrawal does to
each slot and to the Timeline (R11 to R19). -/

namespace Sys2Proof.Machine

variable (f : FieldStore)

theorem FieldStore.slot_setSlot (i j : SlotId) (x : Slot) :
    (f.setSlot i x).slot j = if j = i then x else f.slot j := by
  simp only [FieldStore.slot, FieldStore.setSlot, Fin.getElem_fin, Vector.getElem_set, Fin.ext_iff]
  by_cases h : i.val = j.val <;> simp [h, eq_comm]

@[simp] theorem FieldStore.slot_setSlot_self (i : SlotId) (x : Slot) : (f.setSlot i x).slot i = x := by
  simp [FieldStore.slot_setSlot]

theorem FieldStore.slot_setSlot_ne {i j : SlotId} (h : j ≠ i) (x : Slot) :
    (f.setSlot i x).slot j = f.slot j := by
  simp [FieldStore.slot_setSlot, h]

@[simp] theorem FieldStore.timeline_setSlot (i : SlotId) (x : Slot) :
    (f.setSlot i x).timeline = f.timeline := rfl

@[simp] theorem FieldStore.grid_setSlot (i : SlotId) (x : Slot) : (f.setSlot i x).grid = f.grid := rfl

@[simp] theorem Slot.freed_state (x : Slot) : x.freed.state = .free := rfl
@[simp] theorem Slot.freed_hour (x : Slot) : x.freed.hour = none := rfl
@[simp] theorem Slot.freed_fieldSet (x : Slot) : x.freed.fieldSet = none := rfl
@[simp] theorem Slot.freed_generation (x : Slot) : x.freed.generation = x.generation := rfl
@[simp] theorem Slot.freed_pins (x : Slot) : x.freed.pins = 0 := rfl
@[simp] theorem Slot.freed_loaded (x : Slot) : x.freed.loaded = 0 := rfl
@[simp] theorem Slot.freed_warnings (x : Slot) : x.freed.warnings = [] := rfl
@[simp] theorem Slot.freed_cells (x : Slot) : x.freed.cells = [] := rfl
@[simp] theorem Slot.freed_freed (x : Slot) : x.freed.freed = x.freed := rfl

/-! ### Takes -/

/-- A take increments the pin count of its slot and changes nothing else (R17). -/
theorem FieldStore.slot_take (i j : SlotId) :
    (f.take i).slot j = if j = i then { f.slot i with pins := (f.slot i).pins + 1 } else f.slot j := by
  simp [FieldStore.take, FieldStore.slot_setSlot]

@[simp] theorem FieldStore.timeline_take (i : SlotId) : (f.take i).timeline = f.timeline := rfl
@[simp] theorem FieldStore.grid_take (i : SlotId) : (f.take i).grid = f.grid := rfl

/-- The references of a list to a slot. -/
def refCount (refs : List SlotRef) (j : SlotId) : Nat := (refs.filter fun r => r.slot = j).length

@[simp] theorem refCount_nil (j : SlotId) : refCount [] j = 0 := rfl

theorem refCount_cons (r : SlotRef) (rs : List SlotRef) (j : SlotId) :
    refCount (r :: rs) j = (if r.slot = j then 1 else 0) + refCount rs j := by
  unfold refCount
  by_cases h : r.slot = j <;> simp [h]; omega

@[simp] theorem refCount_append (rs ts : List SlotRef) (j : SlotId) :
    refCount (rs ++ ts) j = refCount rs j + refCount ts j := by
  simp [refCount]

theorem refCount_pos {rs : List SlotRef} {r : SlotRef} (h : r ∈ rs) : 1 ≤ refCount rs r.slot :=
  List.length_pos_of_mem (List.mem_filter.2 ⟨h, by simp⟩)

/-- Taking several references adds to each slot's pin count the number of them that name it (R17). -/
theorem FieldStore.slot_takeAll (refs : List SlotRef) (j : SlotId) :
    (f.takeAll refs).slot j = { f.slot j with pins := (f.slot j).pins + refCount refs j } := by
  induction refs generalizing f with
  | nil => rfl
  | cons r rs ih =>
    rw [FieldStore.takeAll, List.foldl_cons, ← FieldStore.takeAll, ih, FieldStore.slot_take, refCount_cons]
    by_cases h : r.slot = j
    · subst h; simp [Nat.add_assoc]
    · simp [h, Ne.symm h]

@[simp] theorem FieldStore.timeline_takeAll (refs : List SlotRef) :
    (f.takeAll refs).timeline = f.timeline := by
  induction refs generalizing f with
  | nil => rfl
  | cons r rs ih => exact (ih (f.take r.slot)).trans rfl

@[simp] theorem FieldStore.grid_takeAll (refs : List SlotRef) : (f.takeAll refs).grid = f.grid := by
  induction refs generalizing f with
  | nil => rfl
  | cons r rs ih => exact (ih (f.take r.slot)).trans rfl

@[simp] theorem FieldStore.hourOf_takeAll (refs : List SlotRef) (j : SlotId) :
    (f.takeAll refs).hourOf j = f.hourOf j := by
  simp [FieldStore.hourOf, FieldStore.slot_takeAll]

/-! ### Releases -/

/-- A slot after a number of releases: a RETIRING slot that loses its last pin is freed (R18). -/
def Slot.released (x : Slot) (n : Nat) : Slot :=
  if x.state = .retiring ∧ x.pins = n ∧ 0 < n then x.freed else { x with pins := x.pins - n }

/-- A release decrements the pin count of its slot, and frees a RETIRING slot that it leaves unpinned
(R18). -/
theorem FieldStore.slot_release (i j : SlotId) (h : 1 ≤ (f.slot i).pins) :
    (f.release i).slot j = if j = i then (f.slot i).released 1 else f.slot j := by
  have : (f.slot i).pins - 1 = 0 ↔ (f.slot i).pins = 1 := by omega
  simp only [FieldStore.release, Slot.released, this]
  split <;> rename_i hr <;> simp [FieldStore.slot_setSlot, hr]

@[simp] theorem FieldStore.timeline_release (i : SlotId) : (f.release i).timeline = f.timeline := by
  unfold FieldStore.release; dsimp only; split <;> rfl

@[simp] theorem FieldStore.grid_release (i : SlotId) : (f.release i).grid = f.grid := by
  unfold FieldStore.release; dsimp only; split <;> rfl

@[simp] theorem FieldStore.timeline_releaseAll (refs : List SlotRef) :
    (f.releaseAll refs).timeline = f.timeline := by
  induction refs generalizing f with
  | nil => rfl
  | cons r rs ih => exact (ih (f.release r.slot)).trans (f.timeline_release r.slot)

@[simp] theorem FieldStore.grid_releaseAll (refs : List SlotRef) : (f.releaseAll refs).grid = f.grid := by
  induction refs generalizing f with
  | nil => rfl
  | cons r rs ih => exact (ih (f.release r.slot)).trans (f.grid_release r.slot)

theorem Slot.released_zero (x : Slot) : x.released 0 = x := by simp [Slot.released]

theorem Slot.released_released {x : Slot} {m n : Nat} (h : m + n ≤ x.pins) :
    (x.released m).released n = x.released (m + n) := by
  obtain ⟨st, hr, fs, g, p, l, w, c⟩ := x
  replace h : m + n ≤ p := h
  simp only [Slot.released]
  by_cases hm : st = .retiring ∧ p = m ∧ 0 < m
  · obtain ⟨hs, hp, hpos⟩ := hm
    have hn : n = 0 := by omega
    subst hn
    simp [hs, hp, hpos, Slot.freed, Slot.initial]
  · by_cases hmn : st = .retiring ∧ p = m + n ∧ 0 < m + n
    · obtain ⟨hs, hp, hpos⟩ := hmn
      have hn : 0 < n := by
        rcases Nat.eq_zero_or_pos n with hn | hn
        · exact absurd ⟨hs, by omega, by omega⟩ hm
        · exact hn
      subst hp
      rw [if_neg hm]
      simp only [hs, hn, hpos, Nat.add_sub_cancel_left, and_self, if_true]
      rfl
    · have h1 : ¬ (st = .retiring ∧ p - m = n ∧ 0 < n) := by
        rintro ⟨a, b, c⟩; exact hmn ⟨a, by omega, by omega⟩
      rw [if_neg hm, if_neg hmn, if_neg h1]
      simp only [Slot.mk.injEq, true_and, and_true]
      omega

/-- Releasing several references takes from each slot's pin count the number of them that name it, and
frees the RETIRING slots left unpinned (R18). -/
theorem FieldStore.slot_releaseAll (refs : List SlotRef) (h : ∀ j, refCount refs j ≤ (f.slot j).pins)
    (j : SlotId) : (f.releaseAll refs).slot j = (f.slot j).released (refCount refs j) := by
  induction refs generalizing f with
  | nil => exact (Slot.released_zero _).symm
  | cons r rs ih =>
    have hr : 1 ≤ (f.slot r.slot).pins := by
      have := h r.slot; rw [refCount_cons] at this; simp only [if_true] at this; omega
    rw [FieldStore.releaseAll, List.foldl_cons, ← FieldStore.releaseAll, ih]
    · rw [FieldStore.slot_release f _ _ hr, refCount_cons]
      by_cases hj : r.slot = j
      · subst hj
        have := h r.slot; rw [refCount_cons] at this; simp only [if_true] at this
        simp only [if_true]
        exact Slot.released_released this
      · simp [hj, Ne.symm hj]
    · intro k
      have := h k; rw [refCount_cons] at this
      rw [FieldStore.slot_release f _ _ hr]
      by_cases hk : k = r.slot
      · subst hk
        simp only [if_true] at this ⊢
        unfold Slot.released
        split
        · rename_i hx; simp only [Slot.freed_pins]; omega
        · simp only; omega
      · simpa [hk, Ne.symm hk] using this

/-- A move changes each pin count by the references added less those removed (R19). -/
theorem FieldStore.slot_move (added removed : List SlotRef)
    (h : ∀ j, refCount removed j ≤ (f.slot j).pins + refCount added j) (j : SlotId) :
    (f.move added removed).slot j
      = { f.slot j with pins := (f.slot j).pins + refCount added j }.released (refCount removed j) := by
  rw [FieldStore.move, FieldStore.slot_releaseAll, FieldStore.slot_takeAll]
  intro k; rw [FieldStore.slot_takeAll]; exact h k

@[simp] theorem FieldStore.timeline_move (a b : List SlotRef) : (f.move a b).timeline = f.timeline := by
  simp [FieldStore.move]

@[simp] theorem FieldStore.grid_move (a b : List SlotRef) : (f.move a b).grid = f.grid := by
  simp [FieldStore.move]

/-! ### Leaving and entering the Timeline -/

/-- A slot that leaves the Timeline is freed when unpinned and RETIRING otherwise (R12, R13). -/
theorem FieldStore.slot_leaveTimeline (i j : SlotId) :
    (f.leaveTimeline i).slot j =
      if j = i then (if (f.slot i).pins = 0 then (f.slot i).freed else { f.slot i with state := .retiring })
      else f.slot j := by
  unfold FieldStore.leaveTimeline
  dsimp only
  split <;> simp [FieldStore.slot_setSlot] <;> rfl

@[simp] theorem FieldStore.timeline_leaveTimeline (i : SlotId) :
    (f.leaveTimeline i).timeline = f.timeline.filter fun j => j ≠ i := by
  unfold FieldStore.leaveTimeline; dsimp only; split <;> rfl

@[simp] theorem FieldStore.grid_leaveTimeline (i : SlotId) : (f.leaveTimeline i).grid = f.grid := by
  unfold FieldStore.leaveTimeline; dsimp only; split <;> rfl

@[simp] theorem FieldStore.slot_enterTimeline (i j : SlotId) : (f.enterTimeline i).slot j = f.slot j := rfl

/-- The slots listed after an entry: the one that entered and those of other hours. -/
theorem FieldStore.mem_enterTimeline (i j : SlotId) :
    j ∈ (f.enterTimeline i).timeline ↔ j = i ∨ (j ∈ f.timeline ∧ f.hourOf j ≠ f.hourOf i) := by
  simp only [FieldStore.enterTimeline, List.append_assoc, List.mem_append, List.mem_filter,
    decide_eq_true_eq, ne_eq, List.cons_append, List.nil_append, List.mem_cons]
  constructor
  · rintro (⟨h, hl⟩ | rfl | ⟨h, hl⟩)
    · exact .inr ⟨h, by omega⟩
    · exact .inl rfl
    · exact .inr ⟨h, by omega⟩
  · rintro (rfl | ⟨h, hl⟩)
    · exact .inr (.inl rfl)
    · rcases Nat.lt_or_gt_of_ne hl with hl | hl
      · exact .inl ⟨h, hl⟩
      · exact .inr (.inr ⟨h, hl⟩)

/-- The slot found for an hour is listed and holds that hour. -/
theorem FieldStore.slotOfHour_some {h : Nat} {i : SlotId} (hi : f.slotOfHour h = some i) :
    i ∈ f.timeline ∧ f.hourOf i = h := by
  unfold FieldStore.slotOfHour at hi
  exact ⟨List.mem_of_find?_eq_some hi, by simpa using List.find?_some hi⟩

/-- No listed slot holds an hour that is not found. -/
theorem FieldStore.slotOfHour_none {h : Nat} (hn : f.slotOfHour h = none) :
    ∀ i ∈ f.timeline, f.hourOf i ≠ h := by
  intro i hi
  unfold FieldStore.slotOfHour at hn
  simpa using List.find?_eq_none.1 hn i hi

/-! ### Resolution (R14) -/

/-- A resolution answers a reference to a listed slot whose hour lies in the range, as the slot stands. -/
theorem FieldStore.resolve_some {lo hi : Nat} {r : SlotRef} (h : f.resolve lo hi = some r) :
    r.slot ∈ f.timeline ∧ r = f.refTo r.slot ∧ lo ≤ r.hour ∧ r.hour ≤ hi := by
  unfold FieldStore.resolve at h
  obtain ⟨i, hi, rfl⟩ := Option.map_eq_some_iff.1 h
  have := List.find?_some hi
  simp only [Bool.and_eq_true, decide_eq_true_eq] at this
  exact ⟨List.mem_of_find?_eq_some hi, rfl, this.1, this.2⟩

/-- A resolution that answers nothing finds no listed hour in the range. -/
theorem FieldStore.resolve_none {lo hi : Nat} (h : f.resolve lo hi = none) :
    ∀ i ∈ f.timeline, ¬ (lo ≤ f.hourOf i ∧ f.hourOf i ≤ hi) := by
  intro i hm hc
  unfold FieldStore.resolve at h
  have := List.find?_eq_none.1 (Option.map_eq_none_iff.1 h) i hm
  simp [hc.1, hc.2] at this

/-- The two steps of a pair, the second later than the first. -/
theorem FieldStore.resolvePair_some {lo hi : Nat} {a : SlotRef} {b : Option SlotRef}
    (h : f.resolvePair lo hi = (some a, b)) : f.resolve lo hi = some a ∧ b = f.resolveAfter a.hour hi := by
  unfold FieldStore.resolvePair at h
  split at h
  · simp at h
  · rename_i x hx; simp only [Prod.mk.injEq, Option.some.injEq] at h; exact ⟨h.1 ▸ hx, h.1 ▸ h.2.symm⟩

/-- A pair with no first step has no second. -/
theorem FieldStore.resolvePair_none {lo hi : Nat} {b : Option SlotRef}
    (h : f.resolvePair lo hi = (none, b)) : b = none := by
  unfold FieldStore.resolvePair at h
  split at h
  · simpa using h.symm
  · simp at h

/-- The slot chosen for a load is FREE and no lower-numbered slot is (R7). -/
theorem FieldStore.lowestFree_some {i : SlotId} (h : f.lowestFree = some i) :
    (f.slot i).state = .free ∧ ∀ j, j < i → (f.slot j).state ≠ .free := by
  unfold FieldStore.lowestFree at h
  have hs := List.find?_some h
  refine ⟨by simpa using hs, fun j hj hfree => ?_⟩
  obtain ⟨_, as, bs, hab, hnot⟩ := List.find?_eq_some_iff_append.1 h
  have hjm : j ∈ as ++ i :: bs := hab ▸ List.mem_finRange j
  have hsorted : (as ++ i :: bs).Pairwise (· < ·) := hab ▸ List.pairwise_lt_finRange 16
  rcases List.mem_append.1 hjm with hj' | hj'
  · have := hnot j hj'; simp [hfree] at this
  · have := (List.pairwise_append.1 hsorted).2.1
    rcases List.mem_cons.1 hj' with rfl | hj'
    · exact lt_irrefl _ hj
    · exact lt_asymm hj ((List.pairwise_cons.1 this).1 j hj')

theorem FieldStore.lowestFree_none (h : f.lowestFree = none) : ∀ i, (f.slot i).state ≠ .free := by
  intro i hi
  unfold FieldStore.lowestFree at h
  have := List.find?_eq_none.1 h i (List.mem_finRange i)
  simp [hi] at this

end Sys2Proof.Machine
end

