-- ==== Sys2Proof/Laws/State.lean ====
section
/-! SUPPORT. One lemma for each field of `State` and each of its updates, so that no proof unfolds a
record update. -/

namespace Sys2Proof.Machine

variable (s : State)

/-! ### withField -/

@[simp] theorem State.withField_now (x : FieldStore) : (s.withField x).now = s.now := rfl
@[simp] theorem State.withField_resetLine (x : FieldStore) : (s.withField x).resetLine = s.resetLine := rfl
@[simp] theorem State.withField_powerOnHeld (x : FieldStore) : (s.withField x).powerOnHeld = s.powerOnHeld := rfl
@[simp] theorem State.withField_safeLine (x : FieldStore) : (s.withField x).safeLine = s.safeLine := rfl
@[simp] theorem State.withField_cause (x : FieldStore) : (s.withField x).cause = s.cause := rfl
@[simp] theorem State.withField_ports (x : FieldStore) : (s.withField x).ports = s.ports := rfl
@[simp] theorem State.withField_field (x : FieldStore) : (s.withField x).field = x := rfl
@[simp] theorem State.withField_ingest (x : FieldStore) : (s.withField x).ingest = s.ingest := rfl
@[simp] theorem State.withField_feed (x : FieldStore) : (s.withField x).feed = s.feed := rfl
@[simp] theorem State.withField_coast (x : FieldStore) : (s.withField x).coast = s.coast := rfl
@[simp] theorem State.withField_areaMap (x : FieldStore) : (s.withField x).areaMap = s.areaMap := rfl
@[simp] theorem State.withField_ctl (x : FieldStore) : (s.withField x).ctl = s.ctl := rfl
@[simp] theorem State.withField_timing (x : FieldStore) : (s.withField x).timing = s.timing := rfl
@[simp] theorem State.withField_eval (x : FieldStore) : (s.withField x).eval = s.eval := rfl
@[simp] theorem State.withField_composer (x : FieldStore) : (s.withField x).composer = s.composer := rfl
@[simp] theorem State.withField_output (x : FieldStore) : (s.withField x).output = s.output := rfl
@[simp] theorem State.withField_pending (x : FieldStore) : (s.withField x).pending = s.pending := rfl

/-! ### withIngest -/

@[simp] theorem State.withIngest_now (x : Ingest) : (s.withIngest x).now = s.now := rfl
@[simp] theorem State.withIngest_resetLine (x : Ingest) : (s.withIngest x).resetLine = s.resetLine := rfl
@[simp] theorem State.withIngest_powerOnHeld (x : Ingest) : (s.withIngest x).powerOnHeld = s.powerOnHeld := rfl
@[simp] theorem State.withIngest_safeLine (x : Ingest) : (s.withIngest x).safeLine = s.safeLine := rfl
@[simp] theorem State.withIngest_cause (x : Ingest) : (s.withIngest x).cause = s.cause := rfl
@[simp] theorem State.withIngest_ports (x : Ingest) : (s.withIngest x).ports = s.ports := rfl
@[simp] theorem State.withIngest_field (x : Ingest) : (s.withIngest x).field = s.field := rfl
@[simp] theorem State.withIngest_ingest (x : Ingest) : (s.withIngest x).ingest = x := rfl
@[simp] theorem State.withIngest_feed (x : Ingest) : (s.withIngest x).feed = s.feed := rfl
@[simp] theorem State.withIngest_coast (x : Ingest) : (s.withIngest x).coast = s.coast := rfl
@[simp] theorem State.withIngest_areaMap (x : Ingest) : (s.withIngest x).areaMap = s.areaMap := rfl
@[simp] theorem State.withIngest_ctl (x : Ingest) : (s.withIngest x).ctl = s.ctl := rfl
@[simp] theorem State.withIngest_timing (x : Ingest) : (s.withIngest x).timing = s.timing := rfl
@[simp] theorem State.withIngest_eval (x : Ingest) : (s.withIngest x).eval = s.eval := rfl
@[simp] theorem State.withIngest_composer (x : Ingest) : (s.withIngest x).composer = s.composer := rfl
@[simp] theorem State.withIngest_output (x : Ingest) : (s.withIngest x).output = s.output := rfl
@[simp] theorem State.withIngest_pending (x : Ingest) : (s.withIngest x).pending = s.pending := rfl

/-! ### withFeed -/

@[simp] theorem State.withFeed_now (x : FeedMonitor) : (s.withFeed x).now = s.now := rfl
@[simp] theorem State.withFeed_resetLine (x : FeedMonitor) : (s.withFeed x).resetLine = s.resetLine := rfl
@[simp] theorem State.withFeed_powerOnHeld (x : FeedMonitor) : (s.withFeed x).powerOnHeld = s.powerOnHeld := rfl
@[simp] theorem State.withFeed_safeLine (x : FeedMonitor) : (s.withFeed x).safeLine = s.safeLine := rfl
@[simp] theorem State.withFeed_cause (x : FeedMonitor) : (s.withFeed x).cause = s.cause := rfl
@[simp] theorem State.withFeed_ports (x : FeedMonitor) : (s.withFeed x).ports = s.ports := rfl
@[simp] theorem State.withFeed_field (x : FeedMonitor) : (s.withFeed x).field = s.field := rfl
@[simp] theorem State.withFeed_ingest (x : FeedMonitor) : (s.withFeed x).ingest = s.ingest := rfl
@[simp] theorem State.withFeed_feed (x : FeedMonitor) : (s.withFeed x).feed = x := rfl
@[simp] theorem State.withFeed_coast (x : FeedMonitor) : (s.withFeed x).coast = s.coast := rfl
@[simp] theorem State.withFeed_areaMap (x : FeedMonitor) : (s.withFeed x).areaMap = s.areaMap := rfl
@[simp] theorem State.withFeed_ctl (x : FeedMonitor) : (s.withFeed x).ctl = s.ctl := rfl
@[simp] theorem State.withFeed_timing (x : FeedMonitor) : (s.withFeed x).timing = s.timing := rfl
@[simp] theorem State.withFeed_eval (x : FeedMonitor) : (s.withFeed x).eval = s.eval := rfl
@[simp] theorem State.withFeed_composer (x : FeedMonitor) : (s.withFeed x).composer = s.composer := rfl
@[simp] theorem State.withFeed_output (x : FeedMonitor) : (s.withFeed x).output = s.output := rfl
@[simp] theorem State.withFeed_pending (x : FeedMonitor) : (s.withFeed x).pending = s.pending := rfl

/-! ### withCoast -/

@[simp] theorem State.withCoast_now (x : CoastStore) : (s.withCoast x).now = s.now := rfl
@[simp] theorem State.withCoast_resetLine (x : CoastStore) : (s.withCoast x).resetLine = s.resetLine := rfl
@[simp] theorem State.withCoast_powerOnHeld (x : CoastStore) : (s.withCoast x).powerOnHeld = s.powerOnHeld := rfl
@[simp] theorem State.withCoast_safeLine (x : CoastStore) : (s.withCoast x).safeLine = s.safeLine := rfl
@[simp] theorem State.withCoast_cause (x : CoastStore) : (s.withCoast x).cause = s.cause := rfl
@[simp] theorem State.withCoast_ports (x : CoastStore) : (s.withCoast x).ports = s.ports := rfl
@[simp] theorem State.withCoast_field (x : CoastStore) : (s.withCoast x).field = s.field := rfl
@[simp] theorem State.withCoast_ingest (x : CoastStore) : (s.withCoast x).ingest = s.ingest := rfl
@[simp] theorem State.withCoast_feed (x : CoastStore) : (s.withCoast x).feed = s.feed := rfl
@[simp] theorem State.withCoast_coast (x : CoastStore) : (s.withCoast x).coast = x := rfl
@[simp] theorem State.withCoast_areaMap (x : CoastStore) : (s.withCoast x).areaMap = s.areaMap := rfl
@[simp] theorem State.withCoast_ctl (x : CoastStore) : (s.withCoast x).ctl = s.ctl := rfl
@[simp] theorem State.withCoast_timing (x : CoastStore) : (s.withCoast x).timing = s.timing := rfl
@[simp] theorem State.withCoast_eval (x : CoastStore) : (s.withCoast x).eval = s.eval := rfl
@[simp] theorem State.withCoast_composer (x : CoastStore) : (s.withCoast x).composer = s.composer := rfl
@[simp] theorem State.withCoast_output (x : CoastStore) : (s.withCoast x).output = s.output := rfl
@[simp] theorem State.withCoast_pending (x : CoastStore) : (s.withCoast x).pending = s.pending := rfl

/-! ### withCtl -/

@[simp] theorem State.withCtl_now (x : ShowController) : (s.withCtl x).now = s.now := rfl
@[simp] theorem State.withCtl_resetLine (x : ShowController) : (s.withCtl x).resetLine = s.resetLine := rfl
@[simp] theorem State.withCtl_powerOnHeld (x : ShowController) : (s.withCtl x).powerOnHeld = s.powerOnHeld := rfl
@[simp] theorem State.withCtl_safeLine (x : ShowController) : (s.withCtl x).safeLine = s.safeLine := rfl
@[simp] theorem State.withCtl_cause (x : ShowController) : (s.withCtl x).cause = s.cause := rfl
@[simp] theorem State.withCtl_ports (x : ShowController) : (s.withCtl x).ports = s.ports := rfl
@[simp] theorem State.withCtl_field (x : ShowController) : (s.withCtl x).field = s.field := rfl
@[simp] theorem State.withCtl_ingest (x : ShowController) : (s.withCtl x).ingest = s.ingest := rfl
@[simp] theorem State.withCtl_feed (x : ShowController) : (s.withCtl x).feed = s.feed := rfl
@[simp] theorem State.withCtl_coast (x : ShowController) : (s.withCtl x).coast = s.coast := rfl
@[simp] theorem State.withCtl_areaMap (x : ShowController) : (s.withCtl x).areaMap = s.areaMap := rfl
@[simp] theorem State.withCtl_ctl (x : ShowController) : (s.withCtl x).ctl = x := rfl
@[simp] theorem State.withCtl_timing (x : ShowController) : (s.withCtl x).timing = s.timing := rfl
@[simp] theorem State.withCtl_eval (x : ShowController) : (s.withCtl x).eval = s.eval := rfl
@[simp] theorem State.withCtl_composer (x : ShowController) : (s.withCtl x).composer = s.composer := rfl
@[simp] theorem State.withCtl_output (x : ShowController) : (s.withCtl x).output = s.output := rfl
@[simp] theorem State.withCtl_pending (x : ShowController) : (s.withCtl x).pending = s.pending := rfl

/-! ### withEval -/

@[simp] theorem State.withEval_now (x : Evaluator) : (s.withEval x).now = s.now := rfl
@[simp] theorem State.withEval_resetLine (x : Evaluator) : (s.withEval x).resetLine = s.resetLine := rfl
@[simp] theorem State.withEval_powerOnHeld (x : Evaluator) : (s.withEval x).powerOnHeld = s.powerOnHeld := rfl
@[simp] theorem State.withEval_safeLine (x : Evaluator) : (s.withEval x).safeLine = s.safeLine := rfl
@[simp] theorem State.withEval_cause (x : Evaluator) : (s.withEval x).cause = s.cause := rfl
@[simp] theorem State.withEval_ports (x : Evaluator) : (s.withEval x).ports = s.ports := rfl
@[simp] theorem State.withEval_field (x : Evaluator) : (s.withEval x).field = s.field := rfl
@[simp] theorem State.withEval_ingest (x : Evaluator) : (s.withEval x).ingest = s.ingest := rfl
@[simp] theorem State.withEval_feed (x : Evaluator) : (s.withEval x).feed = s.feed := rfl
@[simp] theorem State.withEval_coast (x : Evaluator) : (s.withEval x).coast = s.coast := rfl
@[simp] theorem State.withEval_areaMap (x : Evaluator) : (s.withEval x).areaMap = s.areaMap := rfl
@[simp] theorem State.withEval_ctl (x : Evaluator) : (s.withEval x).ctl = s.ctl := rfl
@[simp] theorem State.withEval_timing (x : Evaluator) : (s.withEval x).timing = s.timing := rfl
@[simp] theorem State.withEval_eval (x : Evaluator) : (s.withEval x).eval = x := rfl
@[simp] theorem State.withEval_composer (x : Evaluator) : (s.withEval x).composer = s.composer := rfl
@[simp] theorem State.withEval_output (x : Evaluator) : (s.withEval x).output = s.output := rfl
@[simp] theorem State.withEval_pending (x : Evaluator) : (s.withEval x).pending = s.pending := rfl

/-! ### withComposer -/

@[simp] theorem State.withComposer_now (x : Composer) : (s.withComposer x).now = s.now := rfl
@[simp] theorem State.withComposer_resetLine (x : Composer) : (s.withComposer x).resetLine = s.resetLine := rfl
@[simp] theorem State.withComposer_powerOnHeld (x : Composer) : (s.withComposer x).powerOnHeld = s.powerOnHeld := rfl
@[simp] theorem State.withComposer_safeLine (x : Composer) : (s.withComposer x).safeLine = s.safeLine := rfl
@[simp] theorem State.withComposer_cause (x : Composer) : (s.withComposer x).cause = s.cause := rfl
@[simp] theorem State.withComposer_ports (x : Composer) : (s.withComposer x).ports = s.ports := rfl
@[simp] theorem State.withComposer_field (x : Composer) : (s.withComposer x).field = s.field := rfl
@[simp] theorem State.withComposer_ingest (x : Composer) : (s.withComposer x).ingest = s.ingest := rfl
@[simp] theorem State.withComposer_feed (x : Composer) : (s.withComposer x).feed = s.feed := rfl
@[simp] theorem State.withComposer_coast (x : Composer) : (s.withComposer x).coast = s.coast := rfl
@[simp] theorem State.withComposer_areaMap (x : Composer) : (s.withComposer x).areaMap = s.areaMap := rfl
@[simp] theorem State.withComposer_ctl (x : Composer) : (s.withComposer x).ctl = s.ctl := rfl
@[simp] theorem State.withComposer_timing (x : Composer) : (s.withComposer x).timing = s.timing := rfl
@[simp] theorem State.withComposer_eval (x : Composer) : (s.withComposer x).eval = s.eval := rfl
@[simp] theorem State.withComposer_composer (x : Composer) : (s.withComposer x).composer = x := rfl
@[simp] theorem State.withComposer_output (x : Composer) : (s.withComposer x).output = s.output := rfl
@[simp] theorem State.withComposer_pending (x : Composer) : (s.withComposer x).pending = s.pending := rfl

/-! ### withOutput -/

@[simp] theorem State.withOutput_now (x : OutputStage) : (s.withOutput x).now = s.now := rfl
@[simp] theorem State.withOutput_resetLine (x : OutputStage) : (s.withOutput x).resetLine = s.resetLine := rfl
@[simp] theorem State.withOutput_powerOnHeld (x : OutputStage) : (s.withOutput x).powerOnHeld = s.powerOnHeld := rfl
@[simp] theorem State.withOutput_safeLine (x : OutputStage) : (s.withOutput x).safeLine = s.safeLine := rfl
@[simp] theorem State.withOutput_cause (x : OutputStage) : (s.withOutput x).cause = s.cause := rfl
@[simp] theorem State.withOutput_ports (x : OutputStage) : (s.withOutput x).ports = s.ports := rfl
@[simp] theorem State.withOutput_field (x : OutputStage) : (s.withOutput x).field = s.field := rfl
@[simp] theorem State.withOutput_ingest (x : OutputStage) : (s.withOutput x).ingest = s.ingest := rfl
@[simp] theorem State.withOutput_feed (x : OutputStage) : (s.withOutput x).feed = s.feed := rfl
@[simp] theorem State.withOutput_coast (x : OutputStage) : (s.withOutput x).coast = s.coast := rfl
@[simp] theorem State.withOutput_areaMap (x : OutputStage) : (s.withOutput x).areaMap = s.areaMap := rfl
@[simp] theorem State.withOutput_ctl (x : OutputStage) : (s.withOutput x).ctl = s.ctl := rfl
@[simp] theorem State.withOutput_timing (x : OutputStage) : (s.withOutput x).timing = s.timing := rfl
@[simp] theorem State.withOutput_eval (x : OutputStage) : (s.withOutput x).eval = s.eval := rfl
@[simp] theorem State.withOutput_composer (x : OutputStage) : (s.withOutput x).composer = s.composer := rfl
@[simp] theorem State.withOutput_output (x : OutputStage) : (s.withOutput x).output = x := rfl
@[simp] theorem State.withOutput_pending (x : OutputStage) : (s.withOutput x).pending = s.pending := rfl

/-! ### withTiming -/

@[simp] theorem State.withTiming_now (x : FrameTiming) : (s.withTiming x).now = s.now := rfl
@[simp] theorem State.withTiming_resetLine (x : FrameTiming) : (s.withTiming x).resetLine = s.resetLine := rfl
@[simp] theorem State.withTiming_powerOnHeld (x : FrameTiming) : (s.withTiming x).powerOnHeld = s.powerOnHeld := rfl
@[simp] theorem State.withTiming_safeLine (x : FrameTiming) : (s.withTiming x).safeLine = s.safeLine := rfl
@[simp] theorem State.withTiming_cause (x : FrameTiming) : (s.withTiming x).cause = s.cause := rfl
@[simp] theorem State.withTiming_ports (x : FrameTiming) : (s.withTiming x).ports = s.ports := rfl
@[simp] theorem State.withTiming_field (x : FrameTiming) : (s.withTiming x).field = s.field := rfl
@[simp] theorem State.withTiming_ingest (x : FrameTiming) : (s.withTiming x).ingest = s.ingest := rfl
@[simp] theorem State.withTiming_feed (x : FrameTiming) : (s.withTiming x).feed = s.feed := rfl
@[simp] theorem State.withTiming_coast (x : FrameTiming) : (s.withTiming x).coast = s.coast := rfl
@[simp] theorem State.withTiming_areaMap (x : FrameTiming) : (s.withTiming x).areaMap = s.areaMap := rfl
@[simp] theorem State.withTiming_ctl (x : FrameTiming) : (s.withTiming x).ctl = s.ctl := rfl
@[simp] theorem State.withTiming_timing (x : FrameTiming) : (s.withTiming x).timing = x := rfl
@[simp] theorem State.withTiming_eval (x : FrameTiming) : (s.withTiming x).eval = s.eval := rfl
@[simp] theorem State.withTiming_composer (x : FrameTiming) : (s.withTiming x).composer = s.composer := rfl
@[simp] theorem State.withTiming_output (x : FrameTiming) : (s.withTiming x).output = s.output := rfl
@[simp] theorem State.withTiming_pending (x : FrameTiming) : (s.withTiming x).pending = s.pending := rfl

/-! ### withPending -/

@[simp] theorem State.withPending_now (x : List Instr) : (s.withPending x).now = s.now := rfl
@[simp] theorem State.withPending_resetLine (x : List Instr) : (s.withPending x).resetLine = s.resetLine := rfl
@[simp] theorem State.withPending_powerOnHeld (x : List Instr) : (s.withPending x).powerOnHeld = s.powerOnHeld := rfl
@[simp] theorem State.withPending_safeLine (x : List Instr) : (s.withPending x).safeLine = s.safeLine := rfl
@[simp] theorem State.withPending_cause (x : List Instr) : (s.withPending x).cause = s.cause := rfl
@[simp] theorem State.withPending_ports (x : List Instr) : (s.withPending x).ports = s.ports := rfl
@[simp] theorem State.withPending_field (x : List Instr) : (s.withPending x).field = s.field := rfl
@[simp] theorem State.withPending_ingest (x : List Instr) : (s.withPending x).ingest = s.ingest := rfl
@[simp] theorem State.withPending_feed (x : List Instr) : (s.withPending x).feed = s.feed := rfl
@[simp] theorem State.withPending_coast (x : List Instr) : (s.withPending x).coast = s.coast := rfl
@[simp] theorem State.withPending_areaMap (x : List Instr) : (s.withPending x).areaMap = s.areaMap := rfl
@[simp] theorem State.withPending_ctl (x : List Instr) : (s.withPending x).ctl = s.ctl := rfl
@[simp] theorem State.withPending_timing (x : List Instr) : (s.withPending x).timing = s.timing := rfl
@[simp] theorem State.withPending_eval (x : List Instr) : (s.withPending x).eval = s.eval := rfl
@[simp] theorem State.withPending_composer (x : List Instr) : (s.withPending x).composer = s.composer := rfl
@[simp] theorem State.withPending_output (x : List Instr) : (s.withPending x).output = s.output := rfl
@[simp] theorem State.withPending_pending (x : List Instr) : (s.withPending x).pending = x := rfl

/-! ### The clock, the ports and the notices -/

@[simp] theorem State.at_now (t : Nat) : (s.at t).now = max s.now t := rfl
@[simp] theorem State.at_resetLine (t : Nat) : (s.at t).resetLine = s.resetLine := rfl
@[simp] theorem State.at_powerOnHeld (t : Nat) : (s.at t).powerOnHeld = s.powerOnHeld := rfl
@[simp] theorem State.at_safeLine (t : Nat) : (s.at t).safeLine = s.safeLine := rfl
@[simp] theorem State.at_cause (t : Nat) : (s.at t).cause = s.cause := rfl
@[simp] theorem State.at_ports (t : Nat) : (s.at t).ports = s.ports := rfl
@[simp] theorem State.at_field (t : Nat) : (s.at t).field = s.field := rfl
@[simp] theorem State.at_ingest (t : Nat) : (s.at t).ingest = s.ingest := rfl
@[simp] theorem State.at_feed (t : Nat) : (s.at t).feed = s.feed := rfl
@[simp] theorem State.at_coast (t : Nat) : (s.at t).coast = s.coast := rfl
@[simp] theorem State.at_areaMap (t : Nat) : (s.at t).areaMap = s.areaMap := rfl
@[simp] theorem State.at_ctl (t : Nat) : (s.at t).ctl = s.ctl := rfl
@[simp] theorem State.at_timing (t : Nat) : (s.at t).timing = s.timing := rfl
@[simp] theorem State.at_eval (t : Nat) : (s.at t).eval = s.eval := rfl
@[simp] theorem State.at_composer (t : Nat) : (s.at t).composer = s.composer := rfl
@[simp] theorem State.at_output (t : Nat) : (s.at t).output = s.output := rfl
@[simp] theorem State.at_pending (t : Nat) : (s.at t).pending = s.pending := rfl
@[simp] theorem State.modifyPort_now (p : Port) (g : PortState → PortState) : (s.modifyPort p g).now = s.now := rfl
@[simp] theorem State.raise_now (e : Notice) : (s.raise e).now = s.now := rfl
@[simp] theorem State.withdrawGale_now : s.withdrawGale.now = s.now := rfl
@[simp] theorem State.raiseIf_now (b : Bool) (e : Notice) : (s.raiseIf b e).now = s.now := by cases b <;> rfl
@[simp] theorem respond_now (p : Port) (r : State × Answer) : (respond p r).now = r.1.now := rfl
@[simp] theorem State.modifyPort_resetLine (p : Port) (g : PortState → PortState) : (s.modifyPort p g).resetLine = s.resetLine := rfl
@[simp] theorem State.raise_resetLine (e : Notice) : (s.raise e).resetLine = s.resetLine := rfl
@[simp] theorem State.withdrawGale_resetLine : s.withdrawGale.resetLine = s.resetLine := rfl
@[simp] theorem State.raiseIf_resetLine (b : Bool) (e : Notice) : (s.raiseIf b e).resetLine = s.resetLine := by cases b <;> rfl
@[simp] theorem respond_resetLine (p : Port) (r : State × Answer) : (respond p r).resetLine = r.1.resetLine := rfl
@[simp] theorem State.modifyPort_powerOnHeld (p : Port) (g : PortState → PortState) : (s.modifyPort p g).powerOnHeld = s.powerOnHeld := rfl
@[simp] theorem State.raise_powerOnHeld (e : Notice) : (s.raise e).powerOnHeld = s.powerOnHeld := rfl
@[simp] theorem State.withdrawGale_powerOnHeld : s.withdrawGale.powerOnHeld = s.powerOnHeld := rfl
@[simp] theorem State.raiseIf_powerOnHeld (b : Bool) (e : Notice) : (s.raiseIf b e).powerOnHeld = s.powerOnHeld := by cases b <;> rfl
@[simp] theorem respond_powerOnHeld (p : Port) (r : State × Answer) : (respond p r).powerOnHeld = r.1.powerOnHeld := rfl
@[simp] theorem State.modifyPort_safeLine (p : Port) (g : PortState → PortState) : (s.modifyPort p g).safeLine = s.safeLine := rfl
@[simp] theorem State.raise_safeLine (e : Notice) : (s.raise e).safeLine = s.safeLine := rfl
@[simp] theorem State.withdrawGale_safeLine : s.withdrawGale.safeLine = s.safeLine := rfl
@[simp] theorem State.raiseIf_safeLine (b : Bool) (e : Notice) : (s.raiseIf b e).safeLine = s.safeLine := by cases b <;> rfl
@[simp] theorem respond_safeLine (p : Port) (r : State × Answer) : (respond p r).safeLine = r.1.safeLine := rfl
@[simp] theorem State.modifyPort_cause (p : Port) (g : PortState → PortState) : (s.modifyPort p g).cause = s.cause := rfl
@[simp] theorem State.raise_cause (e : Notice) : (s.raise e).cause = s.cause := rfl
@[simp] theorem State.withdrawGale_cause : s.withdrawGale.cause = s.cause := rfl
@[simp] theorem State.raiseIf_cause (b : Bool) (e : Notice) : (s.raiseIf b e).cause = s.cause := by cases b <;> rfl
@[simp] theorem respond_cause (p : Port) (r : State × Answer) : (respond p r).cause = r.1.cause := rfl
@[simp] theorem State.modifyPort_field (p : Port) (g : PortState → PortState) : (s.modifyPort p g).field = s.field := rfl
@[simp] theorem State.raise_field (e : Notice) : (s.raise e).field = s.field := rfl
@[simp] theorem State.withdrawGale_field : s.withdrawGale.field = s.field := rfl
@[simp] theorem State.raiseIf_field (b : Bool) (e : Notice) : (s.raiseIf b e).field = s.field := by cases b <;> rfl
@[simp] theorem respond_field (p : Port) (r : State × Answer) : (respond p r).field = r.1.field := rfl
@[simp] theorem State.modifyPort_ingest (p : Port) (g : PortState → PortState) : (s.modifyPort p g).ingest = s.ingest := rfl
@[simp] theorem State.raise_ingest (e : Notice) : (s.raise e).ingest = s.ingest := rfl
@[simp] theorem State.withdrawGale_ingest : s.withdrawGale.ingest = s.ingest := rfl
@[simp] theorem State.raiseIf_ingest (b : Bool) (e : Notice) : (s.raiseIf b e).ingest = s.ingest := by cases b <;> rfl
@[simp] theorem respond_ingest (p : Port) (r : State × Answer) : (respond p r).ingest = r.1.ingest := rfl
@[simp] theorem State.modifyPort_feed (p : Port) (g : PortState → PortState) : (s.modifyPort p g).feed = s.feed := rfl
@[simp] theorem State.raise_feed (e : Notice) : (s.raise e).feed = s.feed := rfl
@[simp] theorem State.withdrawGale_feed : s.withdrawGale.feed = s.feed := rfl
@[simp] theorem State.raiseIf_feed (b : Bool) (e : Notice) : (s.raiseIf b e).feed = s.feed := by cases b <;> rfl
@[simp] theorem respond_feed (p : Port) (r : State × Answer) : (respond p r).feed = r.1.feed := rfl
@[simp] theorem State.modifyPort_coast (p : Port) (g : PortState → PortState) : (s.modifyPort p g).coast = s.coast := rfl
@[simp] theorem State.raise_coast (e : Notice) : (s.raise e).coast = s.coast := rfl
@[simp] theorem State.withdrawGale_coast : s.withdrawGale.coast = s.coast := rfl
@[simp] theorem State.raiseIf_coast (b : Bool) (e : Notice) : (s.raiseIf b e).coast = s.coast := by cases b <;> rfl
@[simp] theorem respond_coast (p : Port) (r : State × Answer) : (respond p r).coast = r.1.coast := rfl
@[simp] theorem State.modifyPort_areaMap (p : Port) (g : PortState → PortState) : (s.modifyPort p g).areaMap = s.areaMap := rfl
@[simp] theorem State.raise_areaMap (e : Notice) : (s.raise e).areaMap = s.areaMap := rfl
@[simp] theorem State.withdrawGale_areaMap : s.withdrawGale.areaMap = s.areaMap := rfl
@[simp] theorem State.raiseIf_areaMap (b : Bool) (e : Notice) : (s.raiseIf b e).areaMap = s.areaMap := by cases b <;> rfl
@[simp] theorem respond_areaMap (p : Port) (r : State × Answer) : (respond p r).areaMap = r.1.areaMap := rfl
@[simp] theorem State.modifyPort_ctl (p : Port) (g : PortState → PortState) : (s.modifyPort p g).ctl = s.ctl := rfl
@[simp] theorem State.raise_ctl (e : Notice) : (s.raise e).ctl = s.ctl := rfl
@[simp] theorem State.withdrawGale_ctl : s.withdrawGale.ctl = s.ctl := rfl
@[simp] theorem State.raiseIf_ctl (b : Bool) (e : Notice) : (s.raiseIf b e).ctl = s.ctl := by cases b <;> rfl
@[simp] theorem respond_ctl (p : Port) (r : State × Answer) : (respond p r).ctl = r.1.ctl := rfl
@[simp] theorem State.modifyPort_timing (p : Port) (g : PortState → PortState) : (s.modifyPort p g).timing = s.timing := rfl
@[simp] theorem State.raise_timing (e : Notice) : (s.raise e).timing = s.timing := rfl
@[simp] theorem State.withdrawGale_timing : s.withdrawGale.timing = s.timing := rfl
@[simp] theorem State.raiseIf_timing (b : Bool) (e : Notice) : (s.raiseIf b e).timing = s.timing := by cases b <;> rfl
@[simp] theorem respond_timing (p : Port) (r : State × Answer) : (respond p r).timing = r.1.timing := rfl
@[simp] theorem State.modifyPort_eval (p : Port) (g : PortState → PortState) : (s.modifyPort p g).eval = s.eval := rfl
@[simp] theorem State.raise_eval (e : Notice) : (s.raise e).eval = s.eval := rfl
@[simp] theorem State.withdrawGale_eval : s.withdrawGale.eval = s.eval := rfl
@[simp] theorem State.raiseIf_eval (b : Bool) (e : Notice) : (s.raiseIf b e).eval = s.eval := by cases b <;> rfl
@[simp] theorem respond_eval (p : Port) (r : State × Answer) : (respond p r).eval = r.1.eval := rfl
@[simp] theorem State.modifyPort_composer (p : Port) (g : PortState → PortState) : (s.modifyPort p g).composer = s.composer := rfl
@[simp] theorem State.raise_composer (e : Notice) : (s.raise e).composer = s.composer := rfl
@[simp] theorem State.withdrawGale_composer : s.withdrawGale.composer = s.composer := rfl
@[simp] theorem State.raiseIf_composer (b : Bool) (e : Notice) : (s.raiseIf b e).composer = s.composer := by cases b <;> rfl
@[simp] theorem respond_composer (p : Port) (r : State × Answer) : (respond p r).composer = r.1.composer := rfl
@[simp] theorem State.modifyPort_output (p : Port) (g : PortState → PortState) : (s.modifyPort p g).output = s.output := rfl
@[simp] theorem State.raise_output (e : Notice) : (s.raise e).output = s.output := rfl
@[simp] theorem State.withdrawGale_output : s.withdrawGale.output = s.output := rfl
@[simp] theorem State.raiseIf_output (b : Bool) (e : Notice) : (s.raiseIf b e).output = s.output := by cases b <;> rfl
@[simp] theorem respond_output (p : Port) (r : State × Answer) : (respond p r).output = r.1.output := rfl
@[simp] theorem State.modifyPort_pending (p : Port) (g : PortState → PortState) : (s.modifyPort p g).pending = s.pending := rfl
@[simp] theorem State.raise_pending (e : Notice) : (s.raise e).pending = s.pending := rfl
@[simp] theorem State.withdrawGale_pending : s.withdrawGale.pending = s.pending := rfl
@[simp] theorem State.raiseIf_pending (b : Bool) (e : Notice) : (s.raiseIf b e).pending = s.pending := by cases b <;> rfl
@[simp] theorem respond_pending (p : Port) (r : State × Answer) : (respond p r).pending = r.1.pending := rfl

@[simp] theorem State.modifyPort_ports (p : Port) (g : PortState → PortState) :
    (s.modifyPort p g).ports = s.ports.set p (g (s.ports.get p)) := rfl

@[simp] theorem State.raise_ports (e : Notice) : (s.raise e).ports = s.ports.map (PortState.raise e) := rfl

@[simp] theorem State.safeHolds_withField (x : FieldStore) : (s.withField x).safeHolds = s.safeHolds := rfl

@[simp] theorem State.at_zero : s.at 0 = s := by cases s; simp [State.at]

/-! ### The ports -/

@[simp] theorem Ports.get_set (ps : Ports) (p : Port) (x : PortState) : (ps.set p x).get p = x := by
  cases p <;> rfl

theorem Ports.get_set_ne (ps : Ports) {p q : Port} (h : q ≠ p) (x : PortState) :
    (ps.set p x).get q = ps.get q := by
  cases p <;> cases q <;> first | rfl | exact absurd rfl h

@[simp] theorem Ports.get_map (ps : Ports) (f : PortState → PortState) (p : Port) :
    (ps.map f).get p = f (ps.get p) := by
  cases p <;> rfl

@[simp] theorem Ports.set_get (ps : Ports) (p : Port) : ps.set p (ps.get p) = ps := by cases p <;> rfl

@[simp] theorem Ports.set_set (ps : Ports) (p : Port) (x y : PortState) : (ps.set p x).set p y = ps.set p y := by
  cases p <;> rfl

/-! ### Notice records (R176, R179, R180) -/

@[simp] theorem NoticeRecord.get_ofFn (f : Notice → Bool) (e : Notice) : (NoticeRecord.ofFn f).get e = f e := by
  cases e <;> rfl

@[simp] theorem NoticeMask.get_ofFn (f : Group → Setting) (g : Group) : (NoticeMask.ofFn f).get g = f g := by
  cases g <;> rfl

@[simp] theorem NoticeRecord.get_empty (e : Notice) : NoticeRecord.empty.get e = false := by cases e <;> rfl

/-- Two records with the same flags are equal. -/
theorem NoticeRecord.ext_get {a b : NoticeRecord} (h : ∀ e, a.get e = b.get e) : a = b := by
  cases a; cases b
  simp only [NoticeRecord.mk.injEq]
  exact ⟨h .loadPublished, h .loadRejected, h .feedErrors, h .feedStale, h .feedRestored, h .nextReady,
    h .cueEmpty, h .pageEnded, h .galeArea, h .warningInData, h .refLocked, h .refLost, h .freeRun,
    h .lateFrames, h .detailRecovered, h .safeEntered, h .safeLeft⟩

/-- Raising sets exactly the event's flag, and only where its group is subscribed. -/
theorem NoticeRecord.get_raise (m : NoticeMask) (e x : Notice) (r : NoticeRecord) :
    (r.raise m e).get x = (r.get x || (decide (x = e) && decide (m.get (noticeGroup e) ≠ .off))) := by
  unfold NoticeRecord.raise
  split <;> rename_i h
  · simp [h]
  · rw [NoticeRecord.get_ofFn]
    cases r.get x <;> simp [h]

@[simp] theorem NoticeRecord.get_withdraw (e x : Notice) (r : NoticeRecord) :
    (r.withdraw e).get x = (!decide (x = e) && r.get x) := NoticeRecord.get_ofFn _ _

@[simp] theorem NoticeRecord.get_clearGroups (c : Group → Bool) (x : Notice) (r : NoticeRecord) :
    (r.clearGroups c).get x = (!c (noticeGroup x) && r.get x) := NoticeRecord.get_ofFn _ _

/-- Every event stands in the list of events. -/
theorem mem_allNotices (e : Notice) : e ∈ allNotices := by cases e <;> decide

/-- The attention line outside reset: asserted exactly while some flag is set (R177). -/
theorem State.attention_iff (p : Port) (h : s.resetLine = false) :
    s.attention p = true ↔ ∃ e, (s.ports.get p).record.get e = true := by
  simp only [State.attention, h, NoticeRecord.holdsAny, Bool.not_false, Bool.true_and, List.any_eq_true]
  exact ⟨fun ⟨e, _, he⟩ => ⟨e, he⟩, fun ⟨e, he⟩ => ⟨e, mem_allNotices e, he⟩⟩

/-! ### Commands and steps -/

/-- A command that the RESET line freezes answers its effect while the line is released. -/
theorem unlessFrozen_eq {t : State} (h : s.resetLine = false) : unlessFrozen s t = .next t := by
  simp [unlessFrozen, h]

/-- And leaves the state as it is while the line is asserted (R185). -/
theorem unlessFrozen_frozen {t : State} (h : s.resetLine = true) : unlessFrozen s t = .next s := by
  simp [unlessFrozen, h]

theorem step_cons {c : Instr} {rest : List Instr} (h : s.pending = c :: rest) :
    step s = exec c (s.withPending rest) := by
  unfold step; rw [h]

theorem step_nil (h : s.pending = []) : step s = .next s.tick := by
  unfold step; rw [h]

end Sys2Proof.Machine
end

