-- ==== Sys2Proof/Laws/Frames.lean ====
section
/-! SUPPORT. What each composite operation leaves unchanged: for each operation one lemma that names every
field of `State` it does not touch. A field not named may change. -/

namespace Sys2Proof.Machine

variable (s : State)

/-! ### The Feed Monitor -/

@[simp] theorem State.erroredRecord_frame :
    s.erroredRecord.now = s.now ∧ s.erroredRecord.resetLine = s.resetLine ∧
    s.erroredRecord.powerOnHeld = s.powerOnHeld ∧ s.erroredRecord.safeLine = s.safeLine ∧
    s.erroredRecord.cause = s.cause ∧ s.erroredRecord.field = s.field ∧ s.erroredRecord.ingest = s.ingest ∧
    s.erroredRecord.coast = s.coast ∧ s.erroredRecord.areaMap = s.areaMap ∧ s.erroredRecord.ctl = s.ctl ∧
    s.erroredRecord.timing = s.timing ∧ s.erroredRecord.eval = s.eval ∧
    s.erroredRecord.composer = s.composer ∧ s.erroredRecord.output = s.output ∧
    s.erroredRecord.pending = s.pending := by
  unfold State.erroredRecord; dsimp only; (repeat' split) <;> simp

@[simp] theorem State.endWindow_frame :
    s.endWindow.now = s.now ∧ s.endWindow.resetLine = s.resetLine ∧ s.endWindow.powerOnHeld = s.powerOnHeld ∧
    s.endWindow.safeLine = s.safeLine ∧ s.endWindow.cause = s.cause ∧ s.endWindow.field = s.field ∧
    s.endWindow.ingest = s.ingest ∧ s.endWindow.coast = s.coast ∧ s.endWindow.areaMap = s.areaMap ∧
    s.endWindow.ctl = s.ctl ∧ s.endWindow.timing = s.timing ∧ s.endWindow.eval = s.eval ∧
    s.endWindow.composer = s.composer ∧ s.endWindow.output = s.output ∧ s.endWindow.pending = s.pending := by
  unfold State.endWindow; dsimp only; (repeat' split) <;> simp

@[simp] theorem State.expireStale_frame :
    s.expireStale.now = s.now ∧ s.expireStale.resetLine = s.resetLine ∧
    s.expireStale.powerOnHeld = s.powerOnHeld ∧ s.expireStale.safeLine = s.safeLine ∧
    s.expireStale.cause = s.cause ∧ s.expireStale.field = s.field ∧ s.expireStale.ingest = s.ingest ∧
    s.expireStale.coast = s.coast ∧ s.expireStale.areaMap = s.areaMap ∧ s.expireStale.ctl = s.ctl ∧
    s.expireStale.timing = s.timing ∧ s.expireStale.eval = s.eval ∧ s.expireStale.composer = s.composer ∧
    s.expireStale.output = s.output ∧ s.expireStale.pending = s.pending := by
  unfold State.expireStale; dsimp only; split <;> simp

@[simp] theorem State.goodIngestFrame_frame :
    s.goodIngestFrame.now = s.now ∧ s.goodIngestFrame.resetLine = s.resetLine ∧
    s.goodIngestFrame.powerOnHeld = s.powerOnHeld ∧ s.goodIngestFrame.safeLine = s.safeLine ∧
    s.goodIngestFrame.cause = s.cause ∧ s.goodIngestFrame.field = s.field ∧
    s.goodIngestFrame.ingest = s.ingest ∧ s.goodIngestFrame.coast = s.coast ∧
    s.goodIngestFrame.areaMap = s.areaMap ∧ s.goodIngestFrame.ctl = s.ctl ∧
    s.goodIngestFrame.timing = s.timing ∧ s.goodIngestFrame.eval = s.eval ∧
    s.goodIngestFrame.composer = s.composer ∧ s.goodIngestFrame.output = s.output ∧
    s.goodIngestFrame.pending = s.pending := by
  unfold State.goodIngestFrame; dsimp only; split <;> simp

@[simp] theorem State.restartFeed_frame :
    s.restartFeed.now = s.now ∧ s.restartFeed.resetLine = s.resetLine ∧
    s.restartFeed.powerOnHeld = s.powerOnHeld ∧ s.restartFeed.safeLine = s.safeLine ∧
    s.restartFeed.cause = s.cause ∧ s.restartFeed.field = s.field ∧ s.restartFeed.ingest = s.ingest ∧
    s.restartFeed.coast = s.coast ∧ s.restartFeed.areaMap = s.areaMap ∧ s.restartFeed.ctl = s.ctl ∧
    s.restartFeed.timing = s.timing ∧ s.restartFeed.eval = s.eval ∧ s.restartFeed.composer = s.composer ∧
    s.restartFeed.output = s.output ∧ s.restartFeed.pending = s.pending := by
  unfold State.restartFeed; dsimp only; split <;> simp

@[simp] theorem State.passSeconds_frame (n : Nat) :
    (s.passSeconds n).now = s.now ∧ (s.passSeconds n).resetLine = s.resetLine ∧
    (s.passSeconds n).powerOnHeld = s.powerOnHeld ∧ (s.passSeconds n).safeLine = s.safeLine ∧
    (s.passSeconds n).cause = s.cause ∧ (s.passSeconds n).ports = s.ports ∧
    (s.passSeconds n).field = s.field ∧ (s.passSeconds n).ingest = s.ingest ∧
    (s.passSeconds n).coast = s.coast ∧ (s.passSeconds n).areaMap = s.areaMap ∧
    (s.passSeconds n).ctl = s.ctl ∧ (s.passSeconds n).eval = s.eval ∧
    (s.passSeconds n).composer = s.composer ∧ (s.passSeconds n).output = s.output ∧
    (s.passSeconds n).pending = s.pending :=
  ⟨rfl, rfl, rfl, rfl, rfl, rfl, rfl, rfl, rfl, rfl, rfl, rfl, rfl, rfl, rfl⟩

@[simp] theorem State.tick_frame :
    s.tick.now = s.now ∧ s.tick.resetLine = s.resetLine ∧ s.tick.powerOnHeld = s.powerOnHeld ∧
    s.tick.safeLine = s.safeLine ∧ s.tick.cause = s.cause ∧ s.tick.field = s.field ∧
    s.tick.ingest = s.ingest ∧ s.tick.coast = s.coast ∧ s.tick.areaMap = s.areaMap ∧ s.tick.ctl = s.ctl ∧
    s.tick.eval = s.eval ∧ s.tick.composer = s.composer ∧ s.tick.output = s.output ∧
    s.tick.pending = s.pending := by
  unfold State.tick; dsimp only; (repeat' split) <;> simp

/-! ### Ingest -/

@[simp] theorem State.dropLoad_frame (l : OpenLoad) (x : LoadOutcome) (c : Option Nat) :
    (s.dropLoad l x c).now = s.now ∧ (s.dropLoad l x c).resetLine = s.resetLine ∧
    (s.dropLoad l x c).powerOnHeld = s.powerOnHeld ∧ (s.dropLoad l x c).safeLine = s.safeLine ∧
    (s.dropLoad l x c).cause = s.cause ∧ (s.dropLoad l x c).ports = s.ports ∧
    (s.dropLoad l x c).feed = s.feed ∧ (s.dropLoad l x c).coast = s.coast ∧
    (s.dropLoad l x c).areaMap = s.areaMap ∧ (s.dropLoad l x c).ctl = s.ctl ∧
    (s.dropLoad l x c).timing = s.timing ∧ (s.dropLoad l x c).eval = s.eval ∧
    (s.dropLoad l x c).composer = s.composer ∧ (s.dropLoad l x c).output = s.output ∧
    (s.dropLoad l x c).pending = s.pending :=
  ⟨rfl, rfl, rfl, rfl, rfl, rfl, rfl, rfl, rfl, rfl, rfl, rfl, rfl, rfl, rfl⟩

@[simp] theorem State.publishLoad_frame (l : OpenLoad) (c : Nat) :
    (s.publishLoad l c).now = s.now ∧ (s.publishLoad l c).resetLine = s.resetLine ∧
    (s.publishLoad l c).powerOnHeld = s.powerOnHeld ∧ (s.publishLoad l c).safeLine = s.safeLine ∧
    (s.publishLoad l c).cause = s.cause ∧ (s.publishLoad l c).feed = s.feed ∧
    (s.publishLoad l c).coast = s.coast ∧ (s.publishLoad l c).areaMap = s.areaMap ∧
    (s.publishLoad l c).ctl = s.ctl ∧ (s.publishLoad l c).timing = s.timing ∧
    (s.publishLoad l c).eval = s.eval ∧ (s.publishLoad l c).composer = s.composer ∧
    (s.publishLoad l c).output = s.output ∧ (s.publishLoad l c).pending = s.pending := by
  simp [State.publishLoad]

@[simp] theorem State.judgeClose_frame :
    s.judgeClose.now = s.now ∧ s.judgeClose.resetLine = s.resetLine ∧
    s.judgeClose.powerOnHeld = s.powerOnHeld ∧ s.judgeClose.safeLine = s.safeLine ∧
    s.judgeClose.cause = s.cause ∧ s.judgeClose.feed = s.feed ∧ s.judgeClose.coast = s.coast ∧
    s.judgeClose.areaMap = s.areaMap ∧ s.judgeClose.ctl = s.ctl ∧ s.judgeClose.timing = s.timing ∧
    s.judgeClose.eval = s.eval ∧ s.judgeClose.composer = s.composer ∧ s.judgeClose.output = s.output ∧
    s.judgeClose.pending = s.pending := by
  unfold State.judgeClose; dsimp only; (repeat' split) <;> simp

@[simp] theorem State.takeHead_frame :
    s.takeHead.now = s.now ∧ s.takeHead.resetLine = s.resetLine ∧ s.takeHead.powerOnHeld = s.powerOnHeld ∧
    s.takeHead.safeLine = s.safeLine ∧ s.takeHead.cause = s.cause ∧ s.takeHead.feed = s.feed ∧
    s.takeHead.coast = s.coast ∧ s.takeHead.areaMap = s.areaMap ∧ s.takeHead.ctl = s.ctl ∧
    s.takeHead.timing = s.timing ∧ s.takeHead.eval = s.eval ∧ s.takeHead.composer = s.composer ∧
    s.takeHead.output = s.output ∧ s.takeHead.pending = s.pending := by
  unfold State.takeHead; (repeat' split) <;> simp

@[simp] theorem State.cancelLoad_frame (l : OpenLoad) :
    (s.cancelLoad l).now = s.now ∧ (s.cancelLoad l).resetLine = s.resetLine ∧
    (s.cancelLoad l).powerOnHeld = s.powerOnHeld ∧ (s.cancelLoad l).safeLine = s.safeLine ∧
    (s.cancelLoad l).cause = s.cause ∧ (s.cancelLoad l).ports = s.ports ∧ (s.cancelLoad l).feed = s.feed ∧
    (s.cancelLoad l).coast = s.coast ∧ (s.cancelLoad l).areaMap = s.areaMap ∧ (s.cancelLoad l).ctl = s.ctl ∧
    (s.cancelLoad l).timing = s.timing ∧ (s.cancelLoad l).eval = s.eval ∧
    (s.cancelLoad l).composer = s.composer ∧ (s.cancelLoad l).output = s.output ∧
    (s.cancelLoad l).pending = s.pending := by
  unfold State.cancelLoad; split <;> simp

@[simp] theorem State.writeBlock_frame (l : OpenLoad) (b : CellBlock) :
    (s.writeBlock l b).now = s.now ∧ (s.writeBlock l b).resetLine = s.resetLine ∧
    (s.writeBlock l b).powerOnHeld = s.powerOnHeld ∧ (s.writeBlock l b).safeLine = s.safeLine ∧
    (s.writeBlock l b).cause = s.cause ∧ (s.writeBlock l b).ports = s.ports ∧
    (s.writeBlock l b).feed = s.feed ∧ (s.writeBlock l b).coast = s.coast ∧
    (s.writeBlock l b).areaMap = s.areaMap ∧ (s.writeBlock l b).ctl = s.ctl ∧
    (s.writeBlock l b).timing = s.timing ∧ (s.writeBlock l b).eval = s.eval ∧
    (s.writeBlock l b).composer = s.composer ∧ (s.writeBlock l b).output = s.output ∧
    (s.writeBlock l b).pending = s.pending :=
  ⟨rfl, rfl, rfl, rfl, rfl, rfl, rfl, rfl, rfl, rfl, rfl, rfl, rfl, rfl, rfl⟩

@[simp] theorem State.completeDrain_frame (b : CellBlock) :
    (s.completeDrain b).now = s.now ∧ (s.completeDrain b).resetLine = s.resetLine ∧
    (s.completeDrain b).powerOnHeld = s.powerOnHeld ∧ (s.completeDrain b).safeLine = s.safeLine ∧
    (s.completeDrain b).cause = s.cause ∧ (s.completeDrain b).coast = s.coast ∧
    (s.completeDrain b).areaMap = s.areaMap ∧ (s.completeDrain b).ctl = s.ctl ∧
    (s.completeDrain b).timing = s.timing ∧ (s.completeDrain b).eval = s.eval ∧
    (s.completeDrain b).composer = s.composer ∧ (s.completeDrain b).output = s.output ∧
    (s.completeDrain b).pending = s.pending := by
  unfold State.completeDrain; (repeat' split) <;> simp

@[simp] theorem State.resetPort_frame (p : Port) :
    (s.resetPort p).now = s.now ∧ (s.resetPort p).resetLine = s.resetLine ∧
    (s.resetPort p).powerOnHeld = s.powerOnHeld ∧ (s.resetPort p).safeLine = s.safeLine ∧
    (s.resetPort p).cause = s.cause ∧ (s.resetPort p).field = s.field ∧ (s.resetPort p).ingest = s.ingest ∧
    (s.resetPort p).feed = s.feed ∧ (s.resetPort p).coast = s.coast ∧ (s.resetPort p).areaMap = s.areaMap ∧
    (s.resetPort p).ctl = s.ctl ∧ (s.resetPort p).timing = s.timing ∧ (s.resetPort p).eval = s.eval ∧
    (s.resetPort p).composer = s.composer ∧ (s.resetPort p).output = s.output ∧
    (s.resetPort p).pending = s.pending :=
  ⟨rfl, rfl, rfl, rfl, rfl, rfl, rfl, rfl, rfl, rfl, rfl, rfl, rfl, rfl, rfl, rfl⟩

/-! ### Coast, show -/

@[simp] theorem State.answerNext_frame :
    s.answerNext.now = s.now ∧ s.answerNext.resetLine = s.resetLine ∧
    s.answerNext.powerOnHeld = s.powerOnHeld ∧ s.answerNext.safeLine = s.safeLine ∧
    s.answerNext.cause = s.cause ∧ s.answerNext.field = s.field ∧ s.answerNext.ingest = s.ingest ∧
    s.answerNext.feed = s.feed ∧ s.answerNext.coast = s.coast ∧ s.answerNext.areaMap = s.areaMap ∧
    s.answerNext.timing = s.timing ∧ s.answerNext.eval = s.eval ∧ s.answerNext.composer = s.composer ∧
    s.answerNext.output = s.output ∧ s.answerNext.pending = s.pending := by
  unfold State.answerNext; split <;> simp

@[simp] theorem State.completeCut_frame (p : ContextPlace) :
    (s.completeCut p).now = s.now ∧ (s.completeCut p).resetLine = s.resetLine ∧
    (s.completeCut p).powerOnHeld = s.powerOnHeld ∧ (s.completeCut p).safeLine = s.safeLine ∧
    (s.completeCut p).cause = s.cause ∧ (s.completeCut p).field = s.field ∧
    (s.completeCut p).ingest = s.ingest ∧ (s.completeCut p).feed = s.feed ∧
    (s.completeCut p).coast = s.coast ∧ (s.completeCut p).areaMap = s.areaMap ∧
    (s.completeCut p).timing = s.timing ∧ (s.completeCut p).eval = s.eval ∧
    (s.completeCut p).composer = s.composer ∧ (s.completeCut p).output = s.output ∧
    (s.completeCut p).pending = s.pending := by
  unfold State.completeCut; (repeat' split) <;> simp

@[simp] theorem State.clearGlyphs_frame :
    s.clearGlyphs.now = s.now ∧ s.clearGlyphs.resetLine = s.resetLine ∧
    s.clearGlyphs.powerOnHeld = s.powerOnHeld ∧ s.clearGlyphs.safeLine = s.safeLine ∧
    s.clearGlyphs.cause = s.cause ∧ s.clearGlyphs.ports = s.ports ∧ s.clearGlyphs.field = s.field ∧
    s.clearGlyphs.ingest = s.ingest ∧ s.clearGlyphs.feed = s.feed ∧ s.clearGlyphs.coast = s.coast ∧
    s.clearGlyphs.areaMap = s.areaMap ∧ s.clearGlyphs.ctl = s.ctl ∧ s.clearGlyphs.timing = s.timing ∧
    s.clearGlyphs.composer = s.composer ∧ s.clearGlyphs.output = s.output ∧
    s.clearGlyphs.pending = s.pending :=
  ⟨rfl, rfl, rfl, rfl, rfl, rfl, rfl, rfl, rfl, rfl, rfl, rfl, rfl, rfl, rfl, rfl⟩

@[simp] theorem State.clearAlerts_frame :
    s.clearAlerts.now = s.now ∧ s.clearAlerts.resetLine = s.resetLine ∧
    s.clearAlerts.powerOnHeld = s.powerOnHeld ∧ s.clearAlerts.safeLine = s.safeLine ∧
    s.clearAlerts.cause = s.cause ∧ s.clearAlerts.ports = s.ports ∧ s.clearAlerts.field = s.field ∧
    s.clearAlerts.ingest = s.ingest ∧ s.clearAlerts.feed = s.feed ∧ s.clearAlerts.coast = s.coast ∧
    s.clearAlerts.areaMap = s.areaMap ∧ s.clearAlerts.ctl = s.ctl ∧ s.clearAlerts.timing = s.timing ∧
    s.clearAlerts.composer = s.composer ∧ s.clearAlerts.output = s.output ∧
    s.clearAlerts.pending = s.pending :=
  ⟨rfl, rfl, rfl, rfl, rfl, rfl, rfl, rfl, rfl, rfl, rfl, rfl, rfl, rfl, rfl, rfl⟩

@[simp] theorem State.releaseContext_frame (x : Context) :
    (s.releaseContext x).now = s.now ∧ (s.releaseContext x).resetLine = s.resetLine ∧
    (s.releaseContext x).powerOnHeld = s.powerOnHeld ∧ (s.releaseContext x).safeLine = s.safeLine ∧
    (s.releaseContext x).cause = s.cause ∧ (s.releaseContext x).ports = s.ports ∧
    (s.releaseContext x).ingest = s.ingest ∧ (s.releaseContext x).feed = s.feed ∧
    (s.releaseContext x).coast = s.coast ∧ (s.releaseContext x).areaMap = s.areaMap ∧
    (s.releaseContext x).ctl = s.ctl ∧ (s.releaseContext x).timing = s.timing ∧
    (s.releaseContext x).eval = s.eval ∧ (s.releaseContext x).composer = s.composer ∧
    (s.releaseContext x).output = s.output ∧ (s.releaseContext x).pending = s.pending :=
  ⟨rfl, rfl, rfl, rfl, rfl, rfl, rfl, rfl, rfl, rfl, rfl, rfl, rfl, rfl, rfl, rfl⟩

@[simp] theorem State.releaseEntry_frame (x : Option Context) :
    (s.releaseEntry x).now = s.now ∧ (s.releaseEntry x).resetLine = s.resetLine ∧
    (s.releaseEntry x).powerOnHeld = s.powerOnHeld ∧ (s.releaseEntry x).safeLine = s.safeLine ∧
    (s.releaseEntry x).cause = s.cause ∧ (s.releaseEntry x).ports = s.ports ∧
    (s.releaseEntry x).ingest = s.ingest ∧ (s.releaseEntry x).feed = s.feed ∧
    (s.releaseEntry x).coast = s.coast ∧ (s.releaseEntry x).areaMap = s.areaMap ∧
    (s.releaseEntry x).ctl = s.ctl ∧ (s.releaseEntry x).timing = s.timing ∧
    (s.releaseEntry x).eval = s.eval ∧ (s.releaseEntry x).composer = s.composer ∧
    (s.releaseEntry x).output = s.output ∧ (s.releaseEntry x).pending = s.pending := by
  unfold State.releaseEntry; split <;> simp

@[simp] theorem State.buildNext_frame :
    s.buildNext.now = s.now ∧ s.buildNext.resetLine = s.resetLine ∧ s.buildNext.powerOnHeld = s.powerOnHeld ∧
    s.buildNext.safeLine = s.safeLine ∧ s.buildNext.cause = s.cause ∧ s.buildNext.ingest = s.ingest ∧
    s.buildNext.feed = s.feed ∧ s.buildNext.coast = s.coast ∧ s.buildNext.areaMap = s.areaMap ∧
    s.buildNext.timing = s.timing ∧ s.buildNext.eval = s.eval ∧ s.buildNext.composer = s.composer ∧
    s.buildNext.output = s.output ∧ s.buildNext.pending = s.pending := by
  unfold State.buildNext; (repeat' split) <;> simp

@[simp] theorem State.takeNext_frame (x : Context) :
    (s.takeNext x).now = s.now ∧ (s.takeNext x).resetLine = s.resetLine ∧
    (s.takeNext x).powerOnHeld = s.powerOnHeld ∧ (s.takeNext x).safeLine = s.safeLine ∧
    (s.takeNext x).cause = s.cause ∧ (s.takeNext x).ingest = s.ingest ∧ (s.takeNext x).feed = s.feed ∧
    (s.takeNext x).coast = s.coast ∧ (s.takeNext x).areaMap = s.areaMap ∧ (s.takeNext x).timing = s.timing ∧
    (s.takeNext x).composer = s.composer ∧ (s.takeNext x).output = s.output ∧
    (s.takeNext x).pending = s.pending := by
  simp [State.takeNext]

@[simp] theorem foldl_releaseEntry_frame (l : List (Option Context)) :
    (l.foldl (fun t x => State.releaseEntry t x) s).now = s.now ∧
    (l.foldl (fun t x => State.releaseEntry t x) s).resetLine = s.resetLine ∧
    (l.foldl (fun t x => State.releaseEntry t x) s).powerOnHeld = s.powerOnHeld ∧
    (l.foldl (fun t x => State.releaseEntry t x) s).safeLine = s.safeLine ∧
    (l.foldl (fun t x => State.releaseEntry t x) s).cause = s.cause ∧
    (l.foldl (fun t x => State.releaseEntry t x) s).ports = s.ports ∧
    (l.foldl (fun t x => State.releaseEntry t x) s).ingest = s.ingest ∧
    (l.foldl (fun t x => State.releaseEntry t x) s).feed = s.feed ∧
    (l.foldl (fun t x => State.releaseEntry t x) s).coast = s.coast ∧
    (l.foldl (fun t x => State.releaseEntry t x) s).areaMap = s.areaMap ∧
    (l.foldl (fun t x => State.releaseEntry t x) s).ctl = s.ctl ∧
    (l.foldl (fun t x => State.releaseEntry t x) s).timing = s.timing ∧
    (l.foldl (fun t x => State.releaseEntry t x) s).eval = s.eval ∧
    (l.foldl (fun t x => State.releaseEntry t x) s).composer = s.composer ∧
    (l.foldl (fun t x => State.releaseEntry t x) s).output = s.output ∧
    (l.foldl (fun t x => State.releaseEntry t x) s).pending = s.pending :=
  by
  induction l generalizing s with
  | nil => simp
  | cons x l ih => simpa using ih (s.releaseEntry x)

@[simp] theorem State.releaseStack_frame :
    s.releaseStack.now = s.now ∧ s.releaseStack.resetLine = s.resetLine ∧
    s.releaseStack.powerOnHeld = s.powerOnHeld ∧ s.releaseStack.safeLine = s.safeLine ∧
    s.releaseStack.cause = s.cause ∧ s.releaseStack.ports = s.ports ∧ s.releaseStack.ingest = s.ingest ∧
    s.releaseStack.feed = s.feed ∧ s.releaseStack.coast = s.coast ∧ s.releaseStack.areaMap = s.areaMap ∧
    s.releaseStack.timing = s.timing ∧ s.releaseStack.eval = s.eval ∧ s.releaseStack.composer = s.composer ∧
    s.releaseStack.output = s.output ∧ s.releaseStack.pending = s.pending := by
  simp [State.releaseStack, -List.foldl_reverse]

@[simp] theorem State.moveLive_frame (x : Context) (a : Option SlotRef) (b : Option SlotRef) (n : Nat) (e : Bool) :
    (s.moveLive x a b n e).now = s.now ∧ (s.moveLive x a b n e).resetLine = s.resetLine ∧
    (s.moveLive x a b n e).powerOnHeld = s.powerOnHeld ∧ (s.moveLive x a b n e).safeLine = s.safeLine ∧
    (s.moveLive x a b n e).cause = s.cause ∧ (s.moveLive x a b n e).ports = s.ports ∧
    (s.moveLive x a b n e).ingest = s.ingest ∧ (s.moveLive x a b n e).feed = s.feed ∧
    (s.moveLive x a b n e).coast = s.coast ∧ (s.moveLive x a b n e).areaMap = s.areaMap ∧
    (s.moveLive x a b n e).timing = s.timing ∧ (s.moveLive x a b n e).eval = s.eval ∧
    (s.moveLive x a b n e).composer = s.composer ∧ (s.moveLive x a b n e).output = s.output ∧
    (s.moveLive x a b n e).pending = s.pending :=
  ⟨rfl, rfl, rfl, rfl, rfl, rfl, rfl, rfl, rfl, rfl, rfl, rfl, rfl, rfl, rfl⟩

@[simp] theorem State.answerAwaitingNext_frame :
    s.answerAwaitingNext.now = s.now ∧ s.answerAwaitingNext.resetLine = s.resetLine ∧
    s.answerAwaitingNext.powerOnHeld = s.powerOnHeld ∧ s.answerAwaitingNext.safeLine = s.safeLine ∧
    s.answerAwaitingNext.cause = s.cause ∧ s.answerAwaitingNext.field = s.field ∧
    s.answerAwaitingNext.ingest = s.ingest ∧ s.answerAwaitingNext.feed = s.feed ∧
    s.answerAwaitingNext.coast = s.coast ∧ s.answerAwaitingNext.areaMap = s.areaMap ∧
    s.answerAwaitingNext.timing = s.timing ∧ s.answerAwaitingNext.eval = s.eval ∧
    s.answerAwaitingNext.composer = s.composer ∧ s.answerAwaitingNext.output = s.output ∧
    s.answerAwaitingNext.pending = s.pending := by
  unfold State.answerAwaitingNext; split <;> simp

/-! ### The Composer -/

@[simp] theorem State.judgeLate_frame :
    s.judgeLate.now = s.now ∧ s.judgeLate.resetLine = s.resetLine ∧ s.judgeLate.powerOnHeld = s.powerOnHeld ∧
    s.judgeLate.safeLine = s.safeLine ∧ s.judgeLate.cause = s.cause ∧ s.judgeLate.field = s.field ∧
    s.judgeLate.ingest = s.ingest ∧ s.judgeLate.feed = s.feed ∧ s.judgeLate.coast = s.coast ∧
    s.judgeLate.areaMap = s.areaMap ∧ s.judgeLate.ctl = s.ctl ∧ s.judgeLate.timing = s.timing ∧
    s.judgeLate.eval = s.eval ∧ s.judgeLate.output = s.output ∧ s.judgeLate.pending = s.pending := by
  simp [State.judgeLate]

@[simp] theorem State.judgeOnTime_frame :
    s.judgeOnTime.now = s.now ∧ s.judgeOnTime.resetLine = s.resetLine ∧
    s.judgeOnTime.powerOnHeld = s.powerOnHeld ∧ s.judgeOnTime.safeLine = s.safeLine ∧
    s.judgeOnTime.cause = s.cause ∧ s.judgeOnTime.field = s.field ∧ s.judgeOnTime.ingest = s.ingest ∧
    s.judgeOnTime.feed = s.feed ∧ s.judgeOnTime.coast = s.coast ∧ s.judgeOnTime.areaMap = s.areaMap ∧
    s.judgeOnTime.ctl = s.ctl ∧ s.judgeOnTime.timing = s.timing ∧ s.judgeOnTime.eval = s.eval ∧
    s.judgeOnTime.output = s.output ∧ s.judgeOnTime.pending = s.pending := by
  simp [State.judgeOnTime]

@[simp] theorem State.beginComposition_frame (x : Snapshot) :
    (s.beginComposition x).now = s.now ∧ (s.beginComposition x).resetLine = s.resetLine ∧
    (s.beginComposition x).powerOnHeld = s.powerOnHeld ∧ (s.beginComposition x).safeLine = s.safeLine ∧
    (s.beginComposition x).cause = s.cause ∧ (s.beginComposition x).ports = s.ports ∧
    (s.beginComposition x).field = s.field ∧ (s.beginComposition x).ingest = s.ingest ∧
    (s.beginComposition x).feed = s.feed ∧ (s.beginComposition x).coast = s.coast ∧
    (s.beginComposition x).areaMap = s.areaMap ∧ (s.beginComposition x).ctl = s.ctl ∧
    (s.beginComposition x).timing = s.timing ∧ (s.beginComposition x).eval = s.eval ∧
    (s.beginComposition x).output = s.output ∧ (s.beginComposition x).pending = s.pending :=
  ⟨rfl, rfl, rfl, rfl, rfl, rfl, rfl, rfl, rfl, rfl, rfl, rfl, rfl, rfl, rfl, rfl⟩

@[simp] theorem State.snapshotArrives_frame (x : Snapshot) :
    (s.snapshotArrives x).now = s.now ∧ (s.snapshotArrives x).resetLine = s.resetLine ∧
    (s.snapshotArrives x).powerOnHeld = s.powerOnHeld ∧ (s.snapshotArrives x).safeLine = s.safeLine ∧
    (s.snapshotArrives x).cause = s.cause ∧ (s.snapshotArrives x).ingest = s.ingest ∧
    (s.snapshotArrives x).feed = s.feed ∧ (s.snapshotArrives x).coast = s.coast ∧
    (s.snapshotArrives x).areaMap = s.areaMap ∧ (s.snapshotArrives x).ctl = s.ctl ∧
    (s.snapshotArrives x).timing = s.timing ∧ (s.snapshotArrives x).eval = s.eval ∧
    (s.snapshotArrives x).output = s.output ∧ (s.snapshotArrives x).pending = s.pending := by
  unfold State.snapshotArrives; dsimp only; (repeat' split) <;> simp

@[simp] theorem State.writeEvaluation_frame (c : List CellResult) (g : Nat) (l : List AreaSummary) :
    (s.writeEvaluation c g l).now = s.now ∧ (s.writeEvaluation c g l).resetLine = s.resetLine ∧
    (s.writeEvaluation c g l).powerOnHeld = s.powerOnHeld ∧ (s.writeEvaluation c g l).safeLine = s.safeLine ∧
    (s.writeEvaluation c g l).cause = s.cause ∧ (s.writeEvaluation c g l).field = s.field ∧
    (s.writeEvaluation c g l).ingest = s.ingest ∧ (s.writeEvaluation c g l).feed = s.feed ∧
    (s.writeEvaluation c g l).coast = s.coast ∧ (s.writeEvaluation c g l).areaMap = s.areaMap ∧
    (s.writeEvaluation c g l).ctl = s.ctl ∧ (s.writeEvaluation c g l).timing = s.timing ∧
    (s.writeEvaluation c g l).composer = s.composer ∧ (s.writeEvaluation c g l).output = s.output ∧
    (s.writeEvaluation c g l).pending = s.pending := by
  unfold State.writeEvaluation; dsimp only; split <;> simp

@[simp] theorem State.completeComposition_frame (x : Composition) :
    (s.completeComposition x).now = s.now ∧ (s.completeComposition x).resetLine = s.resetLine ∧
    (s.completeComposition x).powerOnHeld = s.powerOnHeld ∧ (s.completeComposition x).safeLine = s.safeLine ∧
    (s.completeComposition x).cause = s.cause ∧ (s.completeComposition x).ingest = s.ingest ∧
    (s.completeComposition x).feed = s.feed ∧ (s.completeComposition x).coast = s.coast ∧
    (s.completeComposition x).areaMap = s.areaMap ∧ (s.completeComposition x).ctl = s.ctl ∧
    (s.completeComposition x).timing = s.timing ∧ (s.completeComposition x).output = s.output ∧
    (s.completeComposition x).pending = s.pending := by
  unfold State.completeComposition; dsimp only; split <;> simp

/-! ### The Sequencer -/

@[simp] theorem State.endHoldLast_frame (x : Context) :
    (s.endHoldLast x).now = s.now ∧ (s.endHoldLast x).resetLine = s.resetLine ∧
    (s.endHoldLast x).powerOnHeld = s.powerOnHeld ∧ (s.endHoldLast x).safeLine = s.safeLine ∧
    (s.endHoldLast x).cause = s.cause ∧ (s.endHoldLast x).ingest = s.ingest ∧
    (s.endHoldLast x).feed = s.feed ∧ (s.endHoldLast x).coast = s.coast ∧
    (s.endHoldLast x).areaMap = s.areaMap ∧ (s.endHoldLast x).timing = s.timing ∧
    (s.endHoldLast x).eval = s.eval ∧ (s.endHoldLast x).composer = s.composer ∧
    (s.endHoldLast x).output = s.output ∧ (s.endHoldLast x).pending = s.pending :=
  ⟨rfl, rfl, rfl, rfl, rfl, rfl, rfl, rfl, rfl, rfl, rfl, rfl, rfl, rfl⟩

@[simp] theorem State.endLoop_frame (x : Context) :
    (s.endLoop x).now = s.now ∧ (s.endLoop x).resetLine = s.resetLine ∧
    (s.endLoop x).powerOnHeld = s.powerOnHeld ∧ (s.endLoop x).safeLine = s.safeLine ∧
    (s.endLoop x).cause = s.cause ∧ (s.endLoop x).ports = s.ports ∧ (s.endLoop x).ingest = s.ingest ∧
    (s.endLoop x).feed = s.feed ∧ (s.endLoop x).coast = s.coast ∧ (s.endLoop x).areaMap = s.areaMap ∧
    (s.endLoop x).timing = s.timing ∧ (s.endLoop x).eval = s.eval ∧ (s.endLoop x).composer = s.composer ∧
    (s.endLoop x).output = s.output ∧ (s.endLoop x).pending = s.pending :=
  ⟨rfl, rfl, rfl, rfl, rfl, rfl, rfl, rfl, rfl, rfl, rfl, rfl, rfl, rfl, rfl⟩

@[simp] theorem State.advanceTake_frame :
    s.advanceTake.now = s.now ∧ s.advanceTake.resetLine = s.resetLine ∧
    s.advanceTake.powerOnHeld = s.powerOnHeld ∧ s.advanceTake.safeLine = s.safeLine ∧
    s.advanceTake.cause = s.cause ∧ s.advanceTake.ingest = s.ingest ∧ s.advanceTake.feed = s.feed ∧
    s.advanceTake.coast = s.coast ∧ s.advanceTake.areaMap = s.areaMap ∧ s.advanceTake.timing = s.timing ∧
    s.advanceTake.composer = s.composer ∧ s.advanceTake.output = s.output ∧
    s.advanceTake.pending = s.pending := by
  unfold State.advanceTake; split <;> simp

@[simp] theorem State.endAdvance_frame (x : Context) :
    (s.endAdvance x).now = s.now ∧ (s.endAdvance x).resetLine = s.resetLine ∧
    (s.endAdvance x).powerOnHeld = s.powerOnHeld ∧ (s.endAdvance x).safeLine = s.safeLine ∧
    (s.endAdvance x).cause = s.cause ∧ (s.endAdvance x).ingest = s.ingest ∧ (s.endAdvance x).feed = s.feed ∧
    (s.endAdvance x).coast = s.coast ∧ (s.endAdvance x).areaMap = s.areaMap ∧
    (s.endAdvance x).timing = s.timing ∧ (s.endAdvance x).composer = s.composer ∧
    (s.endAdvance x).output = s.output ∧ (s.endAdvance x).pending = s.pending := by
  unfold State.endAdvance; split <;> simp

@[simp] theorem State.endAction_frame (x : Context) :
    (s.endAction x).now = s.now ∧ (s.endAction x).resetLine = s.resetLine ∧
    (s.endAction x).powerOnHeld = s.powerOnHeld ∧ (s.endAction x).safeLine = s.safeLine ∧
    (s.endAction x).cause = s.cause ∧ (s.endAction x).ingest = s.ingest ∧ (s.endAction x).feed = s.feed ∧
    (s.endAction x).coast = s.coast ∧ (s.endAction x).areaMap = s.areaMap ∧
    (s.endAction x).timing = s.timing ∧ (s.endAction x).composer = s.composer ∧
    (s.endAction x).output = s.output ∧ (s.endAction x).pending = s.pending := by
  unfold State.endAction; split <;> simp

@[simp] theorem State.stepBoundary_frame (x : Context) (a : SlotRef) :
    (s.stepBoundary x a).now = s.now ∧ (s.stepBoundary x a).resetLine = s.resetLine ∧
    (s.stepBoundary x a).powerOnHeld = s.powerOnHeld ∧ (s.stepBoundary x a).safeLine = s.safeLine ∧
    (s.stepBoundary x a).cause = s.cause ∧ (s.stepBoundary x a).ingest = s.ingest ∧
    (s.stepBoundary x a).feed = s.feed ∧ (s.stepBoundary x a).coast = s.coast ∧
    (s.stepBoundary x a).areaMap = s.areaMap ∧ (s.stepBoundary x a).timing = s.timing ∧
    (s.stepBoundary x a).composer = s.composer ∧ (s.stepBoundary x a).output = s.output ∧
    (s.stepBoundary x a).pending = s.pending := by
  unfold State.stepBoundary; split <;> simp

@[simp] theorem State.endedCheck_frame (x : Context) (a : SlotRef) :
    (s.endedCheck x a).now = s.now ∧ (s.endedCheck x a).resetLine = s.resetLine ∧
    (s.endedCheck x a).powerOnHeld = s.powerOnHeld ∧ (s.endedCheck x a).safeLine = s.safeLine ∧
    (s.endedCheck x a).cause = s.cause ∧ (s.endedCheck x a).ingest = s.ingest ∧
    (s.endedCheck x a).feed = s.feed ∧ (s.endedCheck x a).coast = s.coast ∧
    (s.endedCheck x a).areaMap = s.areaMap ∧ (s.endedCheck x a).timing = s.timing ∧
    (s.endedCheck x a).composer = s.composer ∧ (s.endedCheck x a).output = s.output ∧
    (s.endedCheck x a).pending = s.pending := by
  unfold State.endedCheck; (repeat' split) <;> simp

@[simp] theorem State.resolveStarved_frame (x : Context) :
    (s.resolveStarved x).now = s.now ∧ (s.resolveStarved x).resetLine = s.resetLine ∧
    (s.resolveStarved x).powerOnHeld = s.powerOnHeld ∧ (s.resolveStarved x).safeLine = s.safeLine ∧
    (s.resolveStarved x).cause = s.cause ∧ (s.resolveStarved x).ports = s.ports ∧
    (s.resolveStarved x).ingest = s.ingest ∧ (s.resolveStarved x).feed = s.feed ∧
    (s.resolveStarved x).coast = s.coast ∧ (s.resolveStarved x).areaMap = s.areaMap ∧
    (s.resolveStarved x).timing = s.timing ∧ (s.resolveStarved x).eval = s.eval ∧
    (s.resolveStarved x).composer = s.composer ∧ (s.resolveStarved x).output = s.output ∧
    (s.resolveStarved x).pending = s.pending := by
  unfold State.resolveStarved; split <;> simp

@[simp] theorem State.advanceLive_frame (x : Context) :
    (s.advanceLive x).now = s.now ∧ (s.advanceLive x).resetLine = s.resetLine ∧
    (s.advanceLive x).powerOnHeld = s.powerOnHeld ∧ (s.advanceLive x).safeLine = s.safeLine ∧
    (s.advanceLive x).cause = s.cause ∧ (s.advanceLive x).ingest = s.ingest ∧
    (s.advanceLive x).feed = s.feed ∧ (s.advanceLive x).coast = s.coast ∧
    (s.advanceLive x).areaMap = s.areaMap ∧ (s.advanceLive x).timing = s.timing ∧
    (s.advanceLive x).composer = s.composer ∧ (s.advanceLive x).output = s.output ∧
    (s.advanceLive x).pending = s.pending := by
  unfold State.advanceLive; (repeat' split) <;> simp

@[simp] theorem State.sendSnapshot_frame :
    s.sendSnapshot.now = s.now ∧ s.sendSnapshot.resetLine = s.resetLine ∧
    s.sendSnapshot.powerOnHeld = s.powerOnHeld ∧ s.sendSnapshot.safeLine = s.safeLine ∧
    s.sendSnapshot.cause = s.cause ∧ s.sendSnapshot.ingest = s.ingest ∧ s.sendSnapshot.feed = s.feed ∧
    s.sendSnapshot.coast = s.coast ∧ s.sendSnapshot.areaMap = s.areaMap ∧ s.sendSnapshot.ctl = s.ctl ∧
    s.sendSnapshot.timing = s.timing ∧ s.sendSnapshot.eval = s.eval ∧ s.sendSnapshot.output = s.output ∧
    s.sendSnapshot.pending = s.pending := by
  simp [State.sendSnapshot]

@[simp] theorem State.advance_frame :
    s.advance.now = s.now ∧ s.advance.resetLine = s.resetLine ∧ s.advance.powerOnHeld = s.powerOnHeld ∧
    s.advance.safeLine = s.safeLine ∧ s.advance.cause = s.cause ∧ s.advance.ingest = s.ingest ∧
    s.advance.feed = s.feed ∧ s.advance.coast = s.coast ∧ s.advance.areaMap = s.areaMap ∧
    s.advance.timing = s.timing ∧ s.advance.composer = s.composer ∧ s.advance.output = s.output ∧
    s.advance.pending = s.pending := by
  unfold State.advance; (repeat' split) <;> simp

@[simp] theorem State.sequence_frame :
    s.sequence.now = s.now ∧ s.sequence.resetLine = s.resetLine ∧ s.sequence.powerOnHeld = s.powerOnHeld ∧
    s.sequence.safeLine = s.safeLine ∧ s.sequence.cause = s.cause ∧ s.sequence.ingest = s.ingest ∧
    s.sequence.feed = s.feed ∧ s.sequence.coast = s.coast ∧ s.sequence.areaMap = s.areaMap ∧
    s.sequence.timing = s.timing ∧ s.sequence.output = s.output ∧ s.sequence.pending = s.pending := by
  unfold State.sequence; split <;> simp

/-! ### The Output Stage -/

@[simp] theorem State.refill_frame :
    s.refill.now = s.now ∧ s.refill.resetLine = s.resetLine ∧ s.refill.powerOnHeld = s.powerOnHeld ∧
    s.refill.safeLine = s.safeLine ∧ s.refill.cause = s.cause ∧ s.refill.ports = s.ports ∧
    s.refill.field = s.field ∧ s.refill.ingest = s.ingest ∧ s.refill.feed = s.feed ∧
    s.refill.coast = s.coast ∧ s.refill.areaMap = s.areaMap ∧ s.refill.ctl = s.ctl ∧
    s.refill.timing = s.timing ∧ s.refill.eval = s.eval ∧ s.refill.composer = s.composer ∧
    s.refill.pending = s.pending :=
  ⟨rfl, rfl, rfl, rfl, rfl, rfl, rfl, rfl, rfl, rfl, rfl, rfl, rfl, rfl, rfl, rfl⟩

@[simp] theorem State.refillKeyed_frame :
    s.refillKeyed.now = s.now ∧ s.refillKeyed.resetLine = s.resetLine ∧
    s.refillKeyed.powerOnHeld = s.powerOnHeld ∧ s.refillKeyed.safeLine = s.safeLine ∧
    s.refillKeyed.cause = s.cause ∧ s.refillKeyed.ports = s.ports ∧ s.refillKeyed.field = s.field ∧
    s.refillKeyed.ingest = s.ingest ∧ s.refillKeyed.feed = s.feed ∧ s.refillKeyed.coast = s.coast ∧
    s.refillKeyed.areaMap = s.areaMap ∧ s.refillKeyed.ctl = s.ctl ∧ s.refillKeyed.timing = s.timing ∧
    s.refillKeyed.eval = s.eval ∧ s.refillKeyed.composer = s.composer ∧ s.refillKeyed.pending = s.pending :=
  ⟨rfl, rfl, rfl, rfl, rfl, rfl, rfl, rfl, rfl, rfl, rfl, rfl, rfl, rfl, rfl, rfl⟩

@[simp] theorem State.refillIfDormant_frame :
    s.refillIfDormant.now = s.now ∧ s.refillIfDormant.resetLine = s.resetLine ∧
    s.refillIfDormant.powerOnHeld = s.powerOnHeld ∧ s.refillIfDormant.safeLine = s.safeLine ∧
    s.refillIfDormant.cause = s.cause ∧ s.refillIfDormant.ports = s.ports ∧
    s.refillIfDormant.field = s.field ∧ s.refillIfDormant.ingest = s.ingest ∧
    s.refillIfDormant.feed = s.feed ∧ s.refillIfDormant.coast = s.coast ∧
    s.refillIfDormant.areaMap = s.areaMap ∧ s.refillIfDormant.ctl = s.ctl ∧
    s.refillIfDormant.timing = s.timing ∧ s.refillIfDormant.eval = s.eval ∧
    s.refillIfDormant.composer = s.composer ∧ s.refillIfDormant.pending = s.pending := by
  unfold State.refillIfDormant; split <;> simp

@[simp] theorem State.setLineup_frame (on : Bool) :
    (s.setLineup on).now = s.now ∧ (s.setLineup on).resetLine = s.resetLine ∧
    (s.setLineup on).powerOnHeld = s.powerOnHeld ∧ (s.setLineup on).safeLine = s.safeLine ∧
    (s.setLineup on).cause = s.cause ∧ (s.setLineup on).ports = s.ports ∧
    (s.setLineup on).field = s.field ∧ (s.setLineup on).ingest = s.ingest ∧
    (s.setLineup on).feed = s.feed ∧ (s.setLineup on).coast = s.coast ∧
    (s.setLineup on).areaMap = s.areaMap ∧ (s.setLineup on).ctl = s.ctl ∧
    (s.setLineup on).timing = s.timing ∧ (s.setLineup on).eval = s.eval ∧
    (s.setLineup on).composer = s.composer ∧ (s.setLineup on).pending = s.pending := by
  unfold State.setLineup; split <;> simp

/-- An event that leaves the line-up flag as it is makes no choice of fill (R155). -/
@[simp] theorem State.setLineup_self : s.setLineup s.output.lineup = s := if_pos rfl

/-- All that setting the line-up flag can do: the flag, and in DORMANT the choice of fill where it changes. -/
theorem State.setLineup_eq (on : Bool) :
    s.setLineup on =
      if on = s.output.lineup then s
      else if s.output.mode = .dormant then (s.withOutput { s.output with lineup := on }).refill
      else s.withOutput { s.output with lineup := on } := rfl

@[simp] theorem State.outputFrame_frame :
    s.outputFrame.now = s.now ∧ s.outputFrame.resetLine = s.resetLine ∧
    s.outputFrame.powerOnHeld = s.powerOnHeld ∧ s.outputFrame.safeLine = s.safeLine ∧
    s.outputFrame.cause = s.cause ∧ s.outputFrame.ports = s.ports ∧ s.outputFrame.field = s.field ∧
    s.outputFrame.ingest = s.ingest ∧ s.outputFrame.feed = s.feed ∧ s.outputFrame.coast = s.coast ∧
    s.outputFrame.areaMap = s.areaMap ∧ s.outputFrame.ctl = s.ctl ∧ s.outputFrame.timing = s.timing ∧
    s.outputFrame.eval = s.eval ∧ s.outputFrame.pending = s.pending := by
  unfold State.outputFrame; split <;> simp

@[simp] theorem State.enterSafe_frame :
    s.enterSafe.now = s.now ∧ s.enterSafe.resetLine = s.resetLine ∧ s.enterSafe.powerOnHeld = s.powerOnHeld ∧
    s.enterSafe.safeLine = s.safeLine ∧ s.enterSafe.cause = s.cause ∧ s.enterSafe.field = s.field ∧
    s.enterSafe.ingest = s.ingest ∧ s.enterSafe.feed = s.feed ∧ s.enterSafe.coast = s.coast ∧
    s.enterSafe.areaMap = s.areaMap ∧ s.enterSafe.ctl = s.ctl ∧ s.enterSafe.timing = s.timing ∧
    s.enterSafe.eval = s.eval ∧ s.enterSafe.composer = s.composer ∧ s.enterSafe.pending = s.pending :=
  ⟨rfl, rfl, rfl, rfl, rfl, rfl, rfl, rfl, rfl, rfl, rfl, rfl, rfl, rfl, rfl⟩

@[simp] theorem State.leaveSafe_frame :
    s.leaveSafe.now = s.now ∧ s.leaveSafe.resetLine = s.resetLine ∧ s.leaveSafe.powerOnHeld = s.powerOnHeld ∧
    s.leaveSafe.safeLine = s.safeLine ∧ s.leaveSafe.cause = s.cause ∧ s.leaveSafe.field = s.field ∧
    s.leaveSafe.ingest = s.ingest ∧ s.leaveSafe.feed = s.feed ∧ s.leaveSafe.coast = s.coast ∧
    s.leaveSafe.areaMap = s.areaMap ∧ s.leaveSafe.ctl = s.ctl ∧ s.leaveSafe.timing = s.timing ∧
    s.leaveSafe.eval = s.eval ∧ s.leaveSafe.composer = s.composer ∧ s.leaveSafe.pending = s.pending := by
  simp [State.leaveSafe]

@[simp] theorem State.safeChanged_frame (b : Bool) :
    (s.safeChanged b).now = s.now ∧ (s.safeChanged b).resetLine = s.resetLine ∧
    (s.safeChanged b).powerOnHeld = s.powerOnHeld ∧ (s.safeChanged b).safeLine = s.safeLine ∧
    (s.safeChanged b).cause = s.cause ∧ (s.safeChanged b).field = s.field ∧
    (s.safeChanged b).ingest = s.ingest ∧ (s.safeChanged b).feed = s.feed ∧
    (s.safeChanged b).coast = s.coast ∧ (s.safeChanged b).areaMap = s.areaMap ∧
    (s.safeChanged b).ctl = s.ctl ∧ (s.safeChanged b).timing = s.timing ∧ (s.safeChanged b).eval = s.eval ∧
    (s.safeChanged b).composer = s.composer ∧ (s.safeChanged b).pending = s.pending := by
  unfold State.safeChanged; (repeat' split) <;> simp

/-! ### Frame Timing -/

@[simp] theorem State.frameStart_frame (t : Nat) :
    (s.frameStart t).now = s.now ∧ (s.frameStart t).resetLine = s.resetLine ∧
    (s.frameStart t).powerOnHeld = s.powerOnHeld ∧ (s.frameStart t).safeLine = s.safeLine ∧
    (s.frameStart t).cause = s.cause ∧ (s.frameStart t).ingest = s.ingest ∧ (s.frameStart t).feed = s.feed ∧
    (s.frameStart t).coast = s.coast ∧ (s.frameStart t).areaMap = s.areaMap ∧
    (s.frameStart t).pending = s.pending := by
  simp [State.frameStart]

@[simp] theorem State.internalFrameStart_frame (d : Nat) :
    (s.internalFrameStart d).resetLine = s.resetLine ∧ (s.internalFrameStart d).powerOnHeld = s.powerOnHeld ∧
    (s.internalFrameStart d).safeLine = s.safeLine ∧ (s.internalFrameStart d).cause = s.cause ∧
    (s.internalFrameStart d).ingest = s.ingest ∧ (s.internalFrameStart d).feed = s.feed ∧
    (s.internalFrameStart d).coast = s.coast ∧ (s.internalFrameStart d).areaMap = s.areaMap ∧
    (s.internalFrameStart d).pending = s.pending := by
  unfold State.internalFrameStart; dsimp only; (repeat' split) <;> simp

@[simp] theorem State.makeOverdue_frame :
    s.makeOverdue.now = s.now ∧ s.makeOverdue.resetLine = s.resetLine ∧
    s.makeOverdue.powerOnHeld = s.powerOnHeld ∧ s.makeOverdue.safeLine = s.safeLine ∧
    s.makeOverdue.cause = s.cause ∧ s.makeOverdue.ingest = s.ingest ∧ s.makeOverdue.feed = s.feed ∧
    s.makeOverdue.coast = s.coast ∧ s.makeOverdue.areaMap = s.areaMap ∧ s.makeOverdue.pending = s.pending := by
  unfold State.makeOverdue; (repeat' split) <;> simp

@[simp] theorem State.lockingPulse_frame (d : Nat) :
    (s.lockingPulse d).now = s.now ∧ (s.lockingPulse d).resetLine = s.resetLine ∧
    (s.lockingPulse d).powerOnHeld = s.powerOnHeld ∧ (s.lockingPulse d).safeLine = s.safeLine ∧
    (s.lockingPulse d).cause = s.cause ∧ (s.lockingPulse d).ingest = s.ingest ∧
    (s.lockingPulse d).feed = s.feed ∧ (s.lockingPulse d).coast = s.coast ∧
    (s.lockingPulse d).areaMap = s.areaMap ∧ (s.lockingPulse d).pending = s.pending := by
  unfold State.lockingPulse; dsimp only; split <;> simp

@[simp] theorem State.acquiringPulse_frame (d : Nat) :
    (s.acquiringPulse d).now = s.now ∧ (s.acquiringPulse d).resetLine = s.resetLine ∧
    (s.acquiringPulse d).powerOnHeld = s.powerOnHeld ∧ (s.acquiringPulse d).safeLine = s.safeLine ∧
    (s.acquiringPulse d).cause = s.cause ∧ (s.acquiringPulse d).ingest = s.ingest ∧
    (s.acquiringPulse d).feed = s.feed ∧ (s.acquiringPulse d).coast = s.coast ∧
    (s.acquiringPulse d).areaMap = s.areaMap ∧ (s.acquiringPulse d).pending = s.pending := by
  unfold State.acquiringPulse; dsimp only; (repeat' split) <;> simp

@[simp] theorem State.lockedPulse_frame (d : Nat) :
    (s.lockedPulse d).now = s.now ∧ (s.lockedPulse d).resetLine = s.resetLine ∧
    (s.lockedPulse d).powerOnHeld = s.powerOnHeld ∧ (s.lockedPulse d).safeLine = s.safeLine ∧
    (s.lockedPulse d).cause = s.cause ∧ (s.lockedPulse d).ingest = s.ingest ∧
    (s.lockedPulse d).feed = s.feed ∧ (s.lockedPulse d).coast = s.coast ∧
    (s.lockedPulse d).areaMap = s.areaMap ∧ (s.lockedPulse d).pending = s.pending := by
  unfold State.lockedPulse; dsimp only; split <;> simp

@[simp] theorem State.firstPulse_frame :
    s.firstPulse.now = s.now ∧ s.firstPulse.resetLine = s.resetLine ∧
    s.firstPulse.powerOnHeld = s.powerOnHeld ∧ s.firstPulse.safeLine = s.safeLine ∧
    s.firstPulse.cause = s.cause ∧ s.firstPulse.ports = s.ports ∧ s.firstPulse.field = s.field ∧
    s.firstPulse.ingest = s.ingest ∧ s.firstPulse.feed = s.feed ∧ s.firstPulse.coast = s.coast ∧
    s.firstPulse.areaMap = s.areaMap ∧ s.firstPulse.ctl = s.ctl ∧ s.firstPulse.eval = s.eval ∧
    s.firstPulse.composer = s.composer ∧ s.firstPulse.output = s.output ∧ s.firstPulse.pending = s.pending :=
  ⟨rfl, rfl, rfl, rfl, rfl, rfl, rfl, rfl, rfl, rfl, rfl, rfl, rfl, rfl, rfl, rfl⟩

@[simp] theorem State.pulse_frame :
    s.pulse.now = s.now ∧ s.pulse.resetLine = s.resetLine ∧ s.pulse.powerOnHeld = s.powerOnHeld ∧
    s.pulse.safeLine = s.safeLine ∧ s.pulse.cause = s.cause ∧ s.pulse.ingest = s.ingest ∧
    s.pulse.feed = s.feed ∧ s.pulse.coast = s.coast ∧ s.pulse.areaMap = s.areaMap ∧
    s.pulse.pending = s.pending := by
  unfold State.pulse; dsimp only; (repeat' split) <;> simp

@[simp] theorem State.setReference_frame (r : Rate) :
    (s.setReference r).now = s.now ∧ (s.setReference r).resetLine = s.resetLine ∧
    (s.setReference r).powerOnHeld = s.powerOnHeld ∧ (s.setReference r).safeLine = s.safeLine ∧
    (s.setReference r).cause = s.cause ∧ (s.setReference r).ingest = s.ingest ∧
    (s.setReference r).feed = s.feed ∧ (s.setReference r).coast = s.coast ∧
    (s.setReference r).areaMap = s.areaMap ∧ (s.setReference r).pending = s.pending := by
  unfold State.setReference; split <;> simp

/-! ### Modes -/

@[simp] theorem State.enterDormant_frame :
    s.enterDormant.now = s.now ∧ s.enterDormant.resetLine = s.resetLine ∧
    s.enterDormant.powerOnHeld = s.powerOnHeld ∧ s.enterDormant.safeLine = s.safeLine ∧
    s.enterDormant.cause = s.cause ∧ s.enterDormant.ports = s.ports ∧ s.enterDormant.field = s.field ∧
    s.enterDormant.ingest = s.ingest ∧ s.enterDormant.feed = s.feed ∧ s.enterDormant.coast = s.coast ∧
    s.enterDormant.areaMap = s.areaMap ∧ s.enterDormant.ctl = s.ctl ∧ s.enterDormant.eval = s.eval ∧
    s.enterDormant.composer = s.composer ∧ s.enterDormant.pending = s.pending :=
  ⟨rfl, rfl, rfl, rfl, rfl, rfl, rfl, rfl, rfl, rfl, rfl, rfl, rfl, rfl, rfl⟩

@[simp] theorem State.leaveDormant_frame (m : Mode) :
    (s.leaveDormant m).now = s.now ∧ (s.leaveDormant m).resetLine = s.resetLine ∧
    (s.leaveDormant m).powerOnHeld = s.powerOnHeld ∧ (s.leaveDormant m).safeLine = s.safeLine ∧
    (s.leaveDormant m).cause = s.cause ∧ (s.leaveDormant m).feed = s.feed ∧
    (s.leaveDormant m).coast = s.coast ∧ (s.leaveDormant m).areaMap = s.areaMap ∧
    (s.leaveDormant m).ctl = s.ctl ∧ (s.leaveDormant m).eval = s.eval ∧
    (s.leaveDormant m).composer = s.composer ∧ (s.leaveDormant m).pending = s.pending := by
  simp [State.leaveDormant]

@[simp] theorem State.changeMode_frame (m : Mode) :
    (s.changeMode m).now = s.now ∧ (s.changeMode m).resetLine = s.resetLine ∧
    (s.changeMode m).powerOnHeld = s.powerOnHeld ∧ (s.changeMode m).safeLine = s.safeLine ∧
    (s.changeMode m).cause = s.cause ∧ (s.changeMode m).feed = s.feed ∧ (s.changeMode m).coast = s.coast ∧
    (s.changeMode m).areaMap = s.areaMap ∧ (s.changeMode m).ctl = s.ctl ∧ (s.changeMode m).eval = s.eval ∧
    (s.changeMode m).composer = s.composer ∧ (s.changeMode m).pending = s.pending := by
  unfold State.changeMode; (repeat' split) <;> simp

@[simp] theorem State.wakingPulse_frame :
    s.wakingPulse.now = s.now ∧ s.wakingPulse.resetLine = s.resetLine ∧
    s.wakingPulse.powerOnHeld = s.powerOnHeld ∧ s.wakingPulse.safeLine = s.safeLine ∧
    s.wakingPulse.cause = s.cause ∧ s.wakingPulse.feed = s.feed ∧ s.wakingPulse.coast = s.coast ∧
    s.wakingPulse.areaMap = s.areaMap ∧ s.wakingPulse.ctl = s.ctl ∧ s.wakingPulse.eval = s.eval ∧
    s.wakingPulse.composer = s.composer ∧ s.wakingPulse.pending = s.pending := by
  simp [State.wakingPulse]

@[simp] theorem State.resetTiming_frame :
    s.resetTiming.now = s.now ∧ s.resetTiming.resetLine = s.resetLine ∧
    s.resetTiming.powerOnHeld = s.powerOnHeld ∧ s.resetTiming.safeLine = s.safeLine ∧
    s.resetTiming.cause = s.cause ∧ s.resetTiming.ingest = s.ingest ∧ s.resetTiming.feed = s.feed ∧
    s.resetTiming.coast = s.coast ∧ s.resetTiming.areaMap = s.areaMap ∧ s.resetTiming.pending = s.pending := by
  unfold State.resetTiming; dsimp only; (repeat' split) <;> simp

@[simp] theorem State.resetOutput_frame :
    s.resetOutput.now = s.now ∧ s.resetOutput.resetLine = s.resetLine ∧
    s.resetOutput.powerOnHeld = s.powerOnHeld ∧ s.resetOutput.safeLine = s.safeLine ∧
    s.resetOutput.cause = s.cause ∧ s.resetOutput.field = s.field ∧ s.resetOutput.ingest = s.ingest ∧
    s.resetOutput.feed = s.feed ∧ s.resetOutput.coast = s.coast ∧ s.resetOutput.areaMap = s.areaMap ∧
    s.resetOutput.ctl = s.ctl ∧ s.resetOutput.timing = s.timing ∧ s.resetOutput.eval = s.eval ∧
    s.resetOutput.composer = s.composer ∧ s.resetOutput.pending = s.pending := by
  simp [State.resetOutput]

/-! ### Links -/

@[simp] theorem State.badCheck_frame (p : Port) :
    (s.badCheck p).now = s.now ∧ (s.badCheck p).resetLine = s.resetLine ∧
    (s.badCheck p).powerOnHeld = s.powerOnHeld ∧ (s.badCheck p).safeLine = s.safeLine ∧
    (s.badCheck p).cause = s.cause ∧ (s.badCheck p).field = s.field ∧ (s.badCheck p).ingest = s.ingest ∧
    (s.badCheck p).coast = s.coast ∧ (s.badCheck p).areaMap = s.areaMap ∧ (s.badCheck p).ctl = s.ctl ∧
    (s.badCheck p).timing = s.timing ∧ (s.badCheck p).eval = s.eval ∧ (s.badCheck p).composer = s.composer ∧
    (s.badCheck p).output = s.output ∧ (s.badCheck p).pending = s.pending := by
  unfold State.badCheck; split <;> simp

@[simp] theorem State.abandonFrame_frame (p : Port) (os : List Octet) :
    (s.abandonFrame p os).now = s.now ∧ (s.abandonFrame p os).resetLine = s.resetLine ∧
    (s.abandonFrame p os).powerOnHeld = s.powerOnHeld ∧ (s.abandonFrame p os).safeLine = s.safeLine ∧
    (s.abandonFrame p os).cause = s.cause ∧ (s.abandonFrame p os).field = s.field ∧
    (s.abandonFrame p os).ingest = s.ingest ∧ (s.abandonFrame p os).coast = s.coast ∧
    (s.abandonFrame p os).areaMap = s.areaMap ∧ (s.abandonFrame p os).ctl = s.ctl ∧
    (s.abandonFrame p os).timing = s.timing ∧ (s.abandonFrame p os).eval = s.eval ∧
    (s.abandonFrame p os).composer = s.composer ∧ (s.abandonFrame p os).output = s.output ∧
    (s.abandonFrame p os).pending = s.pending := by
  unfold State.abandonFrame; split <;> simp

/-! ### The effects of the requests, without their replies -/

@[simp] theorem gridDefine_frame (c : Nat) (n : Nat) :
    (gridDefine c n s).1.now = s.now ∧ (gridDefine c n s).1.resetLine = s.resetLine ∧
    (gridDefine c n s).1.powerOnHeld = s.powerOnHeld ∧ (gridDefine c n s).1.safeLine = s.safeLine ∧
    (gridDefine c n s).1.cause = s.cause ∧ (gridDefine c n s).1.ingest = s.ingest ∧
    (gridDefine c n s).1.feed = s.feed ∧ (gridDefine c n s).1.coast = s.coast ∧
    (gridDefine c n s).1.timing = s.timing ∧ (gridDefine c n s).1.composer = s.composer ∧
    (gridDefine c n s).1.output = s.output ∧ (gridDefine c n s).1.pending = s.pending := by
  unfold gridDefine; (repeat' split) <;> simp

@[simp] theorem stepDrop_frame (h : Nat) :
    (stepDrop h s).1.now = s.now ∧ (stepDrop h s).1.resetLine = s.resetLine ∧
    (stepDrop h s).1.powerOnHeld = s.powerOnHeld ∧ (stepDrop h s).1.safeLine = s.safeLine ∧
    (stepDrop h s).1.cause = s.cause ∧ (stepDrop h s).1.ports = s.ports ∧
    (stepDrop h s).1.ingest = s.ingest ∧ (stepDrop h s).1.feed = s.feed ∧ (stepDrop h s).1.coast = s.coast ∧
    (stepDrop h s).1.areaMap = s.areaMap ∧ (stepDrop h s).1.ctl = s.ctl ∧
    (stepDrop h s).1.timing = s.timing ∧ (stepDrop h s).1.eval = s.eval ∧
    (stepDrop h s).1.composer = s.composer ∧ (stepDrop h s).1.output = s.output ∧
    (stepDrop h s).1.pending = s.pending := by
  unfold stepDrop; (repeat' split) <;> simp

@[simp] theorem stepOpen_frame (h : Nat) (k : Nat) (w : List Nat) :
    (stepOpen h k w s).1.now = s.now ∧ (stepOpen h k w s).1.resetLine = s.resetLine ∧
    (stepOpen h k w s).1.powerOnHeld = s.powerOnHeld ∧ (stepOpen h k w s).1.safeLine = s.safeLine ∧
    (stepOpen h k w s).1.cause = s.cause ∧ (stepOpen h k w s).1.ports = s.ports ∧
    (stepOpen h k w s).1.feed = s.feed ∧ (stepOpen h k w s).1.coast = s.coast ∧
    (stepOpen h k w s).1.areaMap = s.areaMap ∧ (stepOpen h k w s).1.ctl = s.ctl ∧
    (stepOpen h k w s).1.timing = s.timing ∧ (stepOpen h k w s).1.eval = s.eval ∧
    (stepOpen h k w s).1.composer = s.composer ∧ (stepOpen h k w s).1.output = s.output ∧
    (stepOpen h k w s).1.pending = s.pending := by
  unfold stepOpen; (repeat' split) <;> simp

@[simp] theorem cellBlock_frame (r : Nat) (c : Nat) (n : Nat) (v : List CellValue) :
    (cellBlock r c n v s).1.now = s.now ∧ (cellBlock r c n v s).1.resetLine = s.resetLine ∧
    (cellBlock r c n v s).1.powerOnHeld = s.powerOnHeld ∧ (cellBlock r c n v s).1.safeLine = s.safeLine ∧
    (cellBlock r c n v s).1.cause = s.cause ∧ (cellBlock r c n v s).1.feed = s.feed ∧
    (cellBlock r c n v s).1.coast = s.coast ∧ (cellBlock r c n v s).1.areaMap = s.areaMap ∧
    (cellBlock r c n v s).1.ctl = s.ctl ∧ (cellBlock r c n v s).1.timing = s.timing ∧
    (cellBlock r c n v s).1.eval = s.eval ∧ (cellBlock r c n v s).1.composer = s.composer ∧
    (cellBlock r c n v s).1.output = s.output ∧ (cellBlock r c n v s).1.pending = s.pending := by
  unfold cellBlock; (repeat' split) <;> simp

@[simp] theorem stepClose_frame :
    (stepClose s).1.now = s.now ∧ (stepClose s).1.resetLine = s.resetLine ∧
    (stepClose s).1.powerOnHeld = s.powerOnHeld ∧ (stepClose s).1.safeLine = s.safeLine ∧
    (stepClose s).1.cause = s.cause ∧ (stepClose s).1.feed = s.feed ∧ (stepClose s).1.coast = s.coast ∧
    (stepClose s).1.areaMap = s.areaMap ∧ (stepClose s).1.ctl = s.ctl ∧ (stepClose s).1.timing = s.timing ∧
    (stepClose s).1.eval = s.eval ∧ (stepClose s).1.composer = s.composer ∧
    (stepClose s).1.output = s.output ∧ (stepClose s).1.pending = s.pending := by
  unfold stepClose; (repeat' split) <;> simp

@[simp] theorem stepCancel_frame :
    (stepCancel s).1.now = s.now ∧ (stepCancel s).1.resetLine = s.resetLine ∧
    (stepCancel s).1.powerOnHeld = s.powerOnHeld ∧ (stepCancel s).1.safeLine = s.safeLine ∧
    (stepCancel s).1.cause = s.cause ∧ (stepCancel s).1.ports = s.ports ∧ (stepCancel s).1.feed = s.feed ∧
    (stepCancel s).1.coast = s.coast ∧ (stepCancel s).1.areaMap = s.areaMap ∧ (stepCancel s).1.ctl = s.ctl ∧
    (stepCancel s).1.timing = s.timing ∧ (stepCancel s).1.eval = s.eval ∧
    (stepCancel s).1.composer = s.composer ∧ (stepCancel s).1.output = s.output ∧
    (stepCancel s).1.pending = s.pending := by
  unfold stepCancel; (repeat' split) <;> simp

@[simp] theorem feedSettings_frame (x : FeedFields) :
    (feedSettings x s).1.now = s.now ∧ (feedSettings x s).1.resetLine = s.resetLine ∧
    (feedSettings x s).1.powerOnHeld = s.powerOnHeld ∧ (feedSettings x s).1.safeLine = s.safeLine ∧
    (feedSettings x s).1.cause = s.cause ∧ (feedSettings x s).1.field = s.field ∧
    (feedSettings x s).1.ingest = s.ingest ∧ (feedSettings x s).1.coast = s.coast ∧
    (feedSettings x s).1.areaMap = s.areaMap ∧ (feedSettings x s).1.ctl = s.ctl ∧
    (feedSettings x s).1.timing = s.timing ∧ (feedSettings x s).1.eval = s.eval ∧
    (feedSettings x s).1.composer = s.composer ∧ (feedSettings x s).1.output = s.output ∧
    (feedSettings x s).1.pending = s.pending := by
  simp [feedSettings]

@[simp] theorem feedRead_frame :
    (feedRead s).1.now = s.now ∧ (feedRead s).1.resetLine = s.resetLine ∧
    (feedRead s).1.powerOnHeld = s.powerOnHeld ∧ (feedRead s).1.safeLine = s.safeLine ∧
    (feedRead s).1.cause = s.cause ∧ (feedRead s).1.ports = s.ports ∧ (feedRead s).1.field = s.field ∧
    (feedRead s).1.ingest = s.ingest ∧ (feedRead s).1.feed = s.feed ∧ (feedRead s).1.coast = s.coast ∧
    (feedRead s).1.areaMap = s.areaMap ∧ (feedRead s).1.ctl = s.ctl ∧ (feedRead s).1.timing = s.timing ∧
    (feedRead s).1.eval = s.eval ∧ (feedRead s).1.composer = s.composer ∧ (feedRead s).1.output = s.output ∧
    (feedRead s).1.pending = s.pending :=
  ⟨rfl, rfl, rfl, rfl, rfl, rfl, rfl, rfl, rfl, rfl, rfl, rfl, rfl, rfl, rfl, rfl, rfl⟩

@[simp] theorem ingestReset_frame :
    (ingestReset s).1.now = s.now ∧ (ingestReset s).1.resetLine = s.resetLine ∧
    (ingestReset s).1.powerOnHeld = s.powerOnHeld ∧ (ingestReset s).1.safeLine = s.safeLine ∧
    (ingestReset s).1.cause = s.cause ∧ (ingestReset s).1.coast = s.coast ∧
    (ingestReset s).1.areaMap = s.areaMap ∧ (ingestReset s).1.ctl = s.ctl ∧
    (ingestReset s).1.timing = s.timing ∧ (ingestReset s).1.eval = s.eval ∧
    (ingestReset s).1.composer = s.composer ∧ (ingestReset s).1.output = s.output ∧
    (ingestReset s).1.pending = s.pending := by
  unfold ingestReset; dsimp only; (repeat' split) <;> simp

@[simp] theorem coastBegin_frame :
    (coastBegin s).1.now = s.now ∧ (coastBegin s).1.resetLine = s.resetLine ∧
    (coastBegin s).1.powerOnHeld = s.powerOnHeld ∧ (coastBegin s).1.safeLine = s.safeLine ∧
    (coastBegin s).1.cause = s.cause ∧ (coastBegin s).1.field = s.field ∧
    (coastBegin s).1.ingest = s.ingest ∧ (coastBegin s).1.feed = s.feed ∧
    (coastBegin s).1.areaMap = s.areaMap ∧ (coastBegin s).1.timing = s.timing ∧
    (coastBegin s).1.eval = s.eval ∧ (coastBegin s).1.composer = s.composer ∧
    (coastBegin s).1.output = s.output ∧ (coastBegin s).1.pending = s.pending := by
  simp [coastBegin]

@[simp] theorem coastLineNew_frame (k : Nat) (c : Bool) (v : List Vertex) :
    (coastLineNew k c v s).1.now = s.now ∧ (coastLineNew k c v s).1.resetLine = s.resetLine ∧
    (coastLineNew k c v s).1.powerOnHeld = s.powerOnHeld ∧ (coastLineNew k c v s).1.safeLine = s.safeLine ∧
    (coastLineNew k c v s).1.cause = s.cause ∧ (coastLineNew k c v s).1.ports = s.ports ∧
    (coastLineNew k c v s).1.field = s.field ∧ (coastLineNew k c v s).1.ingest = s.ingest ∧
    (coastLineNew k c v s).1.feed = s.feed ∧ (coastLineNew k c v s).1.areaMap = s.areaMap ∧
    (coastLineNew k c v s).1.ctl = s.ctl ∧ (coastLineNew k c v s).1.timing = s.timing ∧
    (coastLineNew k c v s).1.eval = s.eval ∧ (coastLineNew k c v s).1.composer = s.composer ∧
    (coastLineNew k c v s).1.output = s.output ∧ (coastLineNew k c v s).1.pending = s.pending := by
  unfold coastLineNew; dsimp only; (repeat' split) <;> simp [refuseLine]

@[simp] theorem coastLineContinue_frame (v : List Vertex) :
    (coastLineContinue v s).1.now = s.now ∧ (coastLineContinue v s).1.resetLine = s.resetLine ∧
    (coastLineContinue v s).1.powerOnHeld = s.powerOnHeld ∧ (coastLineContinue v s).1.safeLine = s.safeLine ∧
    (coastLineContinue v s).1.cause = s.cause ∧ (coastLineContinue v s).1.ports = s.ports ∧
    (coastLineContinue v s).1.field = s.field ∧ (coastLineContinue v s).1.ingest = s.ingest ∧
    (coastLineContinue v s).1.feed = s.feed ∧ (coastLineContinue v s).1.areaMap = s.areaMap ∧
    (coastLineContinue v s).1.ctl = s.ctl ∧ (coastLineContinue v s).1.timing = s.timing ∧
    (coastLineContinue v s).1.eval = s.eval ∧ (coastLineContinue v s).1.composer = s.composer ∧
    (coastLineContinue v s).1.output = s.output ∧ (coastLineContinue v s).1.pending = s.pending := by
  unfold coastLineContinue; dsimp only; (repeat' split) <;> simp [refuseLine]

@[simp] theorem coastEnd_frame :
    (coastEnd s).1.now = s.now ∧ (coastEnd s).1.resetLine = s.resetLine ∧
    (coastEnd s).1.powerOnHeld = s.powerOnHeld ∧ (coastEnd s).1.safeLine = s.safeLine ∧
    (coastEnd s).1.cause = s.cause ∧ (coastEnd s).1.ports = s.ports ∧ (coastEnd s).1.field = s.field ∧
    (coastEnd s).1.ingest = s.ingest ∧ (coastEnd s).1.feed = s.feed ∧ (coastEnd s).1.areaMap = s.areaMap ∧
    (coastEnd s).1.timing = s.timing ∧ (coastEnd s).1.eval = s.eval ∧ (coastEnd s).1.composer = s.composer ∧
    (coastEnd s).1.output = s.output ∧ (coastEnd s).1.pending = s.pending := by
  unfold coastEnd; split <;> simp

@[simp] theorem areaMapBegin_frame (c : Nat) (n : Nat) :
    (areaMapBegin c n s).1.now = s.now ∧ (areaMapBegin c n s).1.resetLine = s.resetLine ∧
    (areaMapBegin c n s).1.powerOnHeld = s.powerOnHeld ∧ (areaMapBegin c n s).1.safeLine = s.safeLine ∧
    (areaMapBegin c n s).1.cause = s.cause ∧ (areaMapBegin c n s).1.ports = s.ports ∧
    (areaMapBegin c n s).1.field = s.field ∧ (areaMapBegin c n s).1.ingest = s.ingest ∧
    (areaMapBegin c n s).1.feed = s.feed ∧ (areaMapBegin c n s).1.coast = s.coast ∧
    (areaMapBegin c n s).1.ctl = s.ctl ∧ (areaMapBegin c n s).1.timing = s.timing ∧
    (areaMapBegin c n s).1.eval = s.eval ∧ (areaMapBegin c n s).1.composer = s.composer ∧
    (areaMapBegin c n s).1.output = s.output ∧ (areaMapBegin c n s).1.pending = s.pending := by
  unfold areaMapBegin; (repeat' split) <;> simp

@[simp] theorem areaMapRow_frame (r : Nat) (c : Nat) (n : Nat) (v : List MapEntry) :
    (areaMapRow r c n v s).1.now = s.now ∧ (areaMapRow r c n v s).1.resetLine = s.resetLine ∧
    (areaMapRow r c n v s).1.powerOnHeld = s.powerOnHeld ∧ (areaMapRow r c n v s).1.safeLine = s.safeLine ∧
    (areaMapRow r c n v s).1.cause = s.cause ∧ (areaMapRow r c n v s).1.ports = s.ports ∧
    (areaMapRow r c n v s).1.field = s.field ∧ (areaMapRow r c n v s).1.ingest = s.ingest ∧
    (areaMapRow r c n v s).1.feed = s.feed ∧ (areaMapRow r c n v s).1.coast = s.coast ∧
    (areaMapRow r c n v s).1.ctl = s.ctl ∧ (areaMapRow r c n v s).1.timing = s.timing ∧
    (areaMapRow r c n v s).1.eval = s.eval ∧ (areaMapRow r c n v s).1.composer = s.composer ∧
    (areaMapRow r c n v s).1.output = s.output ∧ (areaMapRow r c n v s).1.pending = s.pending := by
  unfold areaMapRow; (repeat' split) <;> simp

@[simp] theorem bandsWrite_frame (x : BandFields) :
    (bandsWrite x s).1.now = s.now ∧ (bandsWrite x s).1.resetLine = s.resetLine ∧
    (bandsWrite x s).1.powerOnHeld = s.powerOnHeld ∧ (bandsWrite x s).1.safeLine = s.safeLine ∧
    (bandsWrite x s).1.cause = s.cause ∧ (bandsWrite x s).1.ports = s.ports ∧
    (bandsWrite x s).1.field = s.field ∧ (bandsWrite x s).1.ingest = s.ingest ∧
    (bandsWrite x s).1.feed = s.feed ∧ (bandsWrite x s).1.coast = s.coast ∧
    (bandsWrite x s).1.areaMap = s.areaMap ∧ (bandsWrite x s).1.ctl = s.ctl ∧
    (bandsWrite x s).1.timing = s.timing ∧ (bandsWrite x s).1.composer = s.composer ∧
    (bandsWrite x s).1.output = s.output ∧ (bandsWrite x s).1.pending = s.pending := by
  unfold bandsWrite; split <;> simp

@[simp] theorem bandsRead_frame :
    (bandsRead s).1.now = s.now ∧ (bandsRead s).1.resetLine = s.resetLine ∧
    (bandsRead s).1.powerOnHeld = s.powerOnHeld ∧ (bandsRead s).1.safeLine = s.safeLine ∧
    (bandsRead s).1.cause = s.cause ∧ (bandsRead s).1.ports = s.ports ∧ (bandsRead s).1.field = s.field ∧
    (bandsRead s).1.ingest = s.ingest ∧ (bandsRead s).1.feed = s.feed ∧ (bandsRead s).1.coast = s.coast ∧
    (bandsRead s).1.areaMap = s.areaMap ∧ (bandsRead s).1.ctl = s.ctl ∧ (bandsRead s).1.timing = s.timing ∧
    (bandsRead s).1.eval = s.eval ∧ (bandsRead s).1.composer = s.composer ∧
    (bandsRead s).1.output = s.output ∧ (bandsRead s).1.pending = s.pending :=
  ⟨rfl, rfl, rfl, rfl, rfl, rfl, rfl, rfl, rfl, rfl, rfl, rfl, rfl, rfl, rfl, rfl, rfl⟩

@[simp] theorem pageWrite_frame (n : Nat) (x : PageFields) :
    (pageWrite n x s).1.now = s.now ∧ (pageWrite n x s).1.resetLine = s.resetLine ∧
    (pageWrite n x s).1.powerOnHeld = s.powerOnHeld ∧ (pageWrite n x s).1.safeLine = s.safeLine ∧
    (pageWrite n x s).1.cause = s.cause ∧ (pageWrite n x s).1.ports = s.ports ∧
    (pageWrite n x s).1.field = s.field ∧ (pageWrite n x s).1.ingest = s.ingest ∧
    (pageWrite n x s).1.feed = s.feed ∧ (pageWrite n x s).1.coast = s.coast ∧
    (pageWrite n x s).1.areaMap = s.areaMap ∧ (pageWrite n x s).1.timing = s.timing ∧
    (pageWrite n x s).1.eval = s.eval ∧ (pageWrite n x s).1.composer = s.composer ∧
    (pageWrite n x s).1.output = s.output ∧ (pageWrite n x s).1.pending = s.pending := by
  unfold pageWrite; (repeat' split) <;> simp

@[simp] theorem pageLayers_frame (m : BitVec 32) (l : LayerSet) :
    (pageLayers m l s).1.now = s.now ∧ (pageLayers m l s).1.resetLine = s.resetLine ∧
    (pageLayers m l s).1.powerOnHeld = s.powerOnHeld ∧ (pageLayers m l s).1.safeLine = s.safeLine ∧
    (pageLayers m l s).1.cause = s.cause ∧ (pageLayers m l s).1.ports = s.ports ∧
    (pageLayers m l s).1.field = s.field ∧ (pageLayers m l s).1.ingest = s.ingest ∧
    (pageLayers m l s).1.feed = s.feed ∧ (pageLayers m l s).1.coast = s.coast ∧
    (pageLayers m l s).1.areaMap = s.areaMap ∧ (pageLayers m l s).1.timing = s.timing ∧
    (pageLayers m l s).1.eval = s.eval ∧ (pageLayers m l s).1.composer = s.composer ∧
    (pageLayers m l s).1.output = s.output ∧ (pageLayers m l s).1.pending = s.pending :=
  ⟨rfl, rfl, rfl, rfl, rfl, rfl, rfl, rfl, rfl, rfl, rfl, rfl, rfl, rfl, rfl, rfl⟩

@[simp] theorem pageRead_frame (n : Nat) :
    (pageRead n s).1.now = s.now ∧ (pageRead n s).1.resetLine = s.resetLine ∧
    (pageRead n s).1.powerOnHeld = s.powerOnHeld ∧ (pageRead n s).1.safeLine = s.safeLine ∧
    (pageRead n s).1.cause = s.cause ∧ (pageRead n s).1.ports = s.ports ∧ (pageRead n s).1.field = s.field ∧
    (pageRead n s).1.ingest = s.ingest ∧ (pageRead n s).1.feed = s.feed ∧ (pageRead n s).1.coast = s.coast ∧
    (pageRead n s).1.areaMap = s.areaMap ∧ (pageRead n s).1.ctl = s.ctl ∧
    (pageRead n s).1.timing = s.timing ∧ (pageRead n s).1.eval = s.eval ∧
    (pageRead n s).1.composer = s.composer ∧ (pageRead n s).1.output = s.output ∧
    (pageRead n s).1.pending = s.pending := by
  unfold pageRead; split <;> simp

@[simp] theorem cue_frame (n : Nat) (h : Option Nat) :
    (cue n h s).1.now = s.now ∧ (cue n h s).1.resetLine = s.resetLine ∧
    (cue n h s).1.powerOnHeld = s.powerOnHeld ∧ (cue n h s).1.safeLine = s.safeLine ∧
    (cue n h s).1.cause = s.cause ∧ (cue n h s).1.ingest = s.ingest ∧ (cue n h s).1.feed = s.feed ∧
    (cue n h s).1.coast = s.coast ∧ (cue n h s).1.areaMap = s.areaMap ∧ (cue n h s).1.timing = s.timing ∧
    (cue n h s).1.eval = s.eval ∧ (cue n h s).1.composer = s.composer ∧ (cue n h s).1.output = s.output ∧
    (cue n h s).1.pending = s.pending := by
  unfold cue; (repeat' split) <;> simp

@[simp] theorem cueClear_frame :
    (cueClear s).1.now = s.now ∧ (cueClear s).1.resetLine = s.resetLine ∧
    (cueClear s).1.powerOnHeld = s.powerOnHeld ∧ (cueClear s).1.safeLine = s.safeLine ∧
    (cueClear s).1.cause = s.cause ∧ (cueClear s).1.ports = s.ports ∧ (cueClear s).1.field = s.field ∧
    (cueClear s).1.ingest = s.ingest ∧ (cueClear s).1.feed = s.feed ∧ (cueClear s).1.coast = s.coast ∧
    (cueClear s).1.areaMap = s.areaMap ∧ (cueClear s).1.timing = s.timing ∧ (cueClear s).1.eval = s.eval ∧
    (cueClear s).1.composer = s.composer ∧ (cueClear s).1.output = s.output ∧
    (cueClear s).1.pending = s.pending :=
  ⟨rfl, rfl, rfl, rfl, rfl, rfl, rfl, rfl, rfl, rfl, rfl, rfl, rfl, rfl, rfl, rfl⟩

@[simp] theorem cueWithdraw_frame :
    (cueWithdraw s).1.now = s.now ∧ (cueWithdraw s).1.resetLine = s.resetLine ∧
    (cueWithdraw s).1.powerOnHeld = s.powerOnHeld ∧ (cueWithdraw s).1.safeLine = s.safeLine ∧
    (cueWithdraw s).1.cause = s.cause ∧ (cueWithdraw s).1.ingest = s.ingest ∧
    (cueWithdraw s).1.feed = s.feed ∧ (cueWithdraw s).1.coast = s.coast ∧
    (cueWithdraw s).1.areaMap = s.areaMap ∧ (cueWithdraw s).1.timing = s.timing ∧
    (cueWithdraw s).1.eval = s.eval ∧ (cueWithdraw s).1.composer = s.composer ∧
    (cueWithdraw s).1.output = s.output ∧ (cueWithdraw s).1.pending = s.pending := by
  unfold cueWithdraw; split <;> simp

@[simp] theorem cueRead_frame :
    (cueRead s).1.now = s.now ∧ (cueRead s).1.resetLine = s.resetLine ∧
    (cueRead s).1.powerOnHeld = s.powerOnHeld ∧ (cueRead s).1.safeLine = s.safeLine ∧
    (cueRead s).1.cause = s.cause ∧ (cueRead s).1.ports = s.ports ∧ (cueRead s).1.field = s.field ∧
    (cueRead s).1.ingest = s.ingest ∧ (cueRead s).1.feed = s.feed ∧ (cueRead s).1.coast = s.coast ∧
    (cueRead s).1.areaMap = s.areaMap ∧ (cueRead s).1.ctl = s.ctl ∧ (cueRead s).1.timing = s.timing ∧
    (cueRead s).1.eval = s.eval ∧ (cueRead s).1.composer = s.composer ∧ (cueRead s).1.output = s.output ∧
    (cueRead s).1.pending = s.pending :=
  ⟨rfl, rfl, rfl, rfl, rfl, rfl, rfl, rfl, rfl, rfl, rfl, rfl, rfl, rfl, rfl, rfl, rfl⟩

@[simp] theorem insert_frame (n : Nat) :
    (insert n s).1.now = s.now ∧ (insert n s).1.resetLine = s.resetLine ∧
    (insert n s).1.powerOnHeld = s.powerOnHeld ∧ (insert n s).1.safeLine = s.safeLine ∧
    (insert n s).1.cause = s.cause ∧ (insert n s).1.ports = s.ports ∧ (insert n s).1.ingest = s.ingest ∧
    (insert n s).1.feed = s.feed ∧ (insert n s).1.coast = s.coast ∧ (insert n s).1.areaMap = s.areaMap ∧
    (insert n s).1.timing = s.timing ∧ (insert n s).1.composer = s.composer ∧
    (insert n s).1.output = s.output ∧ (insert n s).1.pending = s.pending := by
  unfold insert; (repeat' split) <;> simp

@[simp] theorem insertEnd_frame :
    (insertEnd s).1.now = s.now ∧ (insertEnd s).1.resetLine = s.resetLine ∧
    (insertEnd s).1.powerOnHeld = s.powerOnHeld ∧ (insertEnd s).1.safeLine = s.safeLine ∧
    (insertEnd s).1.cause = s.cause ∧ (insertEnd s).1.ports = s.ports ∧ (insertEnd s).1.ingest = s.ingest ∧
    (insertEnd s).1.feed = s.feed ∧ (insertEnd s).1.coast = s.coast ∧ (insertEnd s).1.areaMap = s.areaMap ∧
    (insertEnd s).1.timing = s.timing ∧ (insertEnd s).1.composer = s.composer ∧
    (insertEnd s).1.output = s.output ∧ (insertEnd s).1.pending = s.pending := by
  unfold insertEnd; split <;> simp

@[simp] theorem hold_frame :
    (hold s).1.now = s.now ∧ (hold s).1.resetLine = s.resetLine ∧ (hold s).1.powerOnHeld = s.powerOnHeld ∧
    (hold s).1.safeLine = s.safeLine ∧ (hold s).1.cause = s.cause ∧ (hold s).1.ports = s.ports ∧
    (hold s).1.field = s.field ∧ (hold s).1.ingest = s.ingest ∧ (hold s).1.feed = s.feed ∧
    (hold s).1.coast = s.coast ∧ (hold s).1.areaMap = s.areaMap ∧ (hold s).1.timing = s.timing ∧
    (hold s).1.eval = s.eval ∧ (hold s).1.composer = s.composer ∧ (hold s).1.output = s.output ∧
    (hold s).1.pending = s.pending :=
  ⟨rfl, rfl, rfl, rfl, rfl, rfl, rfl, rfl, rfl, rfl, rfl, rfl, rfl, rfl, rfl, rfl⟩

@[simp] theorem resume_frame :
    (resume s).1.now = s.now ∧ (resume s).1.resetLine = s.resetLine ∧
    (resume s).1.powerOnHeld = s.powerOnHeld ∧ (resume s).1.safeLine = s.safeLine ∧
    (resume s).1.cause = s.cause ∧ (resume s).1.ports = s.ports ∧ (resume s).1.field = s.field ∧
    (resume s).1.ingest = s.ingest ∧ (resume s).1.feed = s.feed ∧ (resume s).1.coast = s.coast ∧
    (resume s).1.areaMap = s.areaMap ∧ (resume s).1.timing = s.timing ∧ (resume s).1.eval = s.eval ∧
    (resume s).1.composer = s.composer ∧ (resume s).1.output = s.output ∧ (resume s).1.pending = s.pending :=
  ⟨rfl, rfl, rfl, rfl, rfl, rfl, rfl, rfl, rfl, rfl, rfl, rfl, rfl, rfl, rfl, rfl⟩

@[simp] theorem jump_frame (h : Nat) :
    (jump h s).1.now = s.now ∧ (jump h s).1.resetLine = s.resetLine ∧
    (jump h s).1.powerOnHeld = s.powerOnHeld ∧ (jump h s).1.safeLine = s.safeLine ∧
    (jump h s).1.cause = s.cause ∧ (jump h s).1.ports = s.ports ∧ (jump h s).1.ingest = s.ingest ∧
    (jump h s).1.feed = s.feed ∧ (jump h s).1.coast = s.coast ∧ (jump h s).1.areaMap = s.areaMap ∧
    (jump h s).1.timing = s.timing ∧ (jump h s).1.composer = s.composer ∧ (jump h s).1.output = s.output ∧
    (jump h s).1.pending = s.pending := by
  unfold jump; (repeat' split) <;> simp

@[simp] theorem deskReset_frame :
    (deskReset s).1.now = s.now ∧ (deskReset s).1.resetLine = s.resetLine ∧
    (deskReset s).1.powerOnHeld = s.powerOnHeld ∧ (deskReset s).1.safeLine = s.safeLine ∧
    (deskReset s).1.cause = s.cause ∧ (deskReset s).1.ingest = s.ingest ∧ (deskReset s).1.feed = s.feed ∧
    (deskReset s).1.coast = s.coast ∧ (deskReset s).1.areaMap = s.areaMap ∧
    (deskReset s).1.timing = s.timing ∧ (deskReset s).1.eval = s.eval ∧
    (deskReset s).1.composer = s.composer ∧ (deskReset s).1.output = s.output ∧
    (deskReset s).1.pending = s.pending := by
  simp [deskReset]

@[simp] theorem take_frame :
    (take s).1.now = s.now ∧ (take s).1.resetLine = s.resetLine ∧ (take s).1.powerOnHeld = s.powerOnHeld ∧
    (take s).1.safeLine = s.safeLine ∧ (take s).1.cause = s.cause ∧ (take s).1.ingest = s.ingest ∧
    (take s).1.feed = s.feed ∧ (take s).1.coast = s.coast ∧ (take s).1.areaMap = s.areaMap ∧
    (take s).1.timing = s.timing ∧ (take s).1.composer = s.composer ∧ (take s).1.output = s.output ∧
    (take s).1.pending = s.pending := by
  unfold take; (repeat' split) <;> simp

@[simp] theorem takeForce_frame :
    (takeForce s).1.now = s.now ∧ (takeForce s).1.resetLine = s.resetLine ∧
    (takeForce s).1.powerOnHeld = s.powerOnHeld ∧ (takeForce s).1.safeLine = s.safeLine ∧
    (takeForce s).1.cause = s.cause ∧ (takeForce s).1.ingest = s.ingest ∧ (takeForce s).1.feed = s.feed ∧
    (takeForce s).1.coast = s.coast ∧ (takeForce s).1.areaMap = s.areaMap ∧
    (takeForce s).1.timing = s.timing ∧ (takeForce s).1.composer = s.composer ∧
    (takeForce s).1.output = s.output ∧ (takeForce s).1.pending = s.pending := by
  unfold takeForce; split <;> simp

@[simp] theorem clear_frame :
    (clear s).1.now = s.now ∧ (clear s).1.resetLine = s.resetLine ∧ (clear s).1.powerOnHeld = s.powerOnHeld ∧
    (clear s).1.safeLine = s.safeLine ∧ (clear s).1.cause = s.cause ∧ (clear s).1.ports = s.ports ∧
    (clear s).1.ingest = s.ingest ∧ (clear s).1.feed = s.feed ∧ (clear s).1.coast = s.coast ∧
    (clear s).1.areaMap = s.areaMap ∧ (clear s).1.timing = s.timing ∧ (clear s).1.composer = s.composer ∧
    (clear s).1.output = s.output ∧ (clear s).1.pending = s.pending := by
  simp [clear]

@[simp] theorem referenceSet_frame (c : Nat) :
    (referenceSet c s).1.now = s.now ∧ (referenceSet c s).1.resetLine = s.resetLine ∧
    (referenceSet c s).1.powerOnHeld = s.powerOnHeld ∧ (referenceSet c s).1.safeLine = s.safeLine ∧
    (referenceSet c s).1.cause = s.cause ∧ (referenceSet c s).1.ingest = s.ingest ∧
    (referenceSet c s).1.feed = s.feed ∧ (referenceSet c s).1.coast = s.coast ∧
    (referenceSet c s).1.areaMap = s.areaMap ∧ (referenceSet c s).1.pending = s.pending := by
  unfold referenceSet; split <;> simp

@[simp] theorem timingRead_frame :
    (timingRead s).1.now = s.now ∧ (timingRead s).1.resetLine = s.resetLine ∧
    (timingRead s).1.powerOnHeld = s.powerOnHeld ∧ (timingRead s).1.safeLine = s.safeLine ∧
    (timingRead s).1.cause = s.cause ∧ (timingRead s).1.ports = s.ports ∧ (timingRead s).1.field = s.field ∧
    (timingRead s).1.ingest = s.ingest ∧ (timingRead s).1.feed = s.feed ∧ (timingRead s).1.coast = s.coast ∧
    (timingRead s).1.areaMap = s.areaMap ∧ (timingRead s).1.ctl = s.ctl ∧
    (timingRead s).1.timing = s.timing ∧ (timingRead s).1.eval = s.eval ∧
    (timingRead s).1.composer = s.composer ∧ (timingRead s).1.output = s.output ∧
    (timingRead s).1.pending = s.pending :=
  ⟨rfl, rfl, rfl, rfl, rfl, rfl, rfl, rfl, rfl, rfl, rfl, rfl, rfl, rfl, rfl, rfl, rfl⟩

@[simp] theorem safeSet_frame (x : Nat) (c : Option Nat) :
    (safeSet x c s).1.now = s.now ∧ (safeSet x c s).1.resetLine = s.resetLine ∧
    (safeSet x c s).1.powerOnHeld = s.powerOnHeld ∧ (safeSet x c s).1.safeLine = s.safeLine ∧
    (safeSet x c s).1.cause = s.cause ∧ (safeSet x c s).1.field = s.field ∧
    (safeSet x c s).1.ingest = s.ingest ∧ (safeSet x c s).1.feed = s.feed ∧
    (safeSet x c s).1.coast = s.coast ∧ (safeSet x c s).1.areaMap = s.areaMap ∧
    (safeSet x c s).1.ctl = s.ctl ∧ (safeSet x c s).1.timing = s.timing ∧ (safeSet x c s).1.eval = s.eval ∧
    (safeSet x c s).1.composer = s.composer ∧ (safeSet x c s).1.pending = s.pending := by
  unfold safeSet; (repeat' split) <;> simp

@[simp] theorem lineup_frame (x : Nat) :
    (lineup x s).1.now = s.now ∧ (lineup x s).1.resetLine = s.resetLine ∧
    (lineup x s).1.powerOnHeld = s.powerOnHeld ∧ (lineup x s).1.safeLine = s.safeLine ∧
    (lineup x s).1.cause = s.cause ∧ (lineup x s).1.ports = s.ports ∧ (lineup x s).1.field = s.field ∧
    (lineup x s).1.ingest = s.ingest ∧ (lineup x s).1.feed = s.feed ∧ (lineup x s).1.coast = s.coast ∧
    (lineup x s).1.areaMap = s.areaMap ∧ (lineup x s).1.ctl = s.ctl ∧ (lineup x s).1.timing = s.timing ∧
    (lineup x s).1.eval = s.eval ∧ (lineup x s).1.composer = s.composer ∧
    (lineup x s).1.pending = s.pending := by
  unfold lineup; (repeat' split) <;> simp

@[simp] theorem outputMode_frame (m : Nat) :
    (outputMode m s).1.now = s.now ∧ (outputMode m s).1.resetLine = s.resetLine ∧
    (outputMode m s).1.powerOnHeld = s.powerOnHeld ∧ (outputMode m s).1.safeLine = s.safeLine ∧
    (outputMode m s).1.cause = s.cause ∧ (outputMode m s).1.feed = s.feed ∧
    (outputMode m s).1.coast = s.coast ∧ (outputMode m s).1.areaMap = s.areaMap ∧
    (outputMode m s).1.ctl = s.ctl ∧ (outputMode m s).1.eval = s.eval ∧
    (outputMode m s).1.composer = s.composer ∧ (outputMode m s).1.pending = s.pending := by
  unfold outputMode; split <;> simp

@[simp] theorem playoutReset_frame :
    (playoutReset s).1.now = s.now ∧ (playoutReset s).1.resetLine = s.resetLine ∧
    (playoutReset s).1.powerOnHeld = s.powerOnHeld ∧ (playoutReset s).1.safeLine = s.safeLine ∧
    (playoutReset s).1.cause = s.cause ∧ (playoutReset s).1.ingest = s.ingest ∧
    (playoutReset s).1.feed = s.feed ∧ (playoutReset s).1.coast = s.coast ∧
    (playoutReset s).1.areaMap = s.areaMap ∧ (playoutReset s).1.pending = s.pending := by
  simp [playoutReset]

@[simp] theorem cellRead_frame (r : Nat) (c : Nat) (n : Nat) :
    (cellRead r c n s).1.now = s.now ∧ (cellRead r c n s).1.resetLine = s.resetLine ∧
    (cellRead r c n s).1.powerOnHeld = s.powerOnHeld ∧ (cellRead r c n s).1.safeLine = s.safeLine ∧
    (cellRead r c n s).1.cause = s.cause ∧ (cellRead r c n s).1.ports = s.ports ∧
    (cellRead r c n s).1.field = s.field ∧ (cellRead r c n s).1.ingest = s.ingest ∧
    (cellRead r c n s).1.feed = s.feed ∧ (cellRead r c n s).1.coast = s.coast ∧
    (cellRead r c n s).1.areaMap = s.areaMap ∧ (cellRead r c n s).1.ctl = s.ctl ∧
    (cellRead r c n s).1.timing = s.timing ∧ (cellRead r c n s).1.eval = s.eval ∧
    (cellRead r c n s).1.composer = s.composer ∧ (cellRead r c n s).1.output = s.output ∧
    (cellRead r c n s).1.pending = s.pending := by
  unfold cellRead; split <;> simp

@[simp] theorem areaRead_frame :
    (areaRead s).1.now = s.now ∧ (areaRead s).1.resetLine = s.resetLine ∧
    (areaRead s).1.powerOnHeld = s.powerOnHeld ∧ (areaRead s).1.safeLine = s.safeLine ∧
    (areaRead s).1.cause = s.cause ∧ (areaRead s).1.ports = s.ports ∧ (areaRead s).1.field = s.field ∧
    (areaRead s).1.ingest = s.ingest ∧ (areaRead s).1.feed = s.feed ∧ (areaRead s).1.coast = s.coast ∧
    (areaRead s).1.areaMap = s.areaMap ∧ (areaRead s).1.ctl = s.ctl ∧ (areaRead s).1.timing = s.timing ∧
    (areaRead s).1.eval = s.eval ∧ (areaRead s).1.composer = s.composer ∧ (areaRead s).1.output = s.output ∧
    (areaRead s).1.pending = s.pending :=
  ⟨rfl, rfl, rfl, rfl, rfl, rfl, rfl, rfl, rfl, rfl, rfl, rfl, rfl, rfl, rfl, rfl, rfl⟩

@[simp] theorem statusRead_frame (p : Port) :
    (statusRead p s).1.now = s.now ∧ (statusRead p s).1.resetLine = s.resetLine ∧
    (statusRead p s).1.powerOnHeld = s.powerOnHeld ∧ (statusRead p s).1.safeLine = s.safeLine ∧
    (statusRead p s).1.cause = s.cause ∧ (statusRead p s).1.field = s.field ∧
    (statusRead p s).1.ingest = s.ingest ∧ (statusRead p s).1.feed = s.feed ∧
    (statusRead p s).1.coast = s.coast ∧ (statusRead p s).1.areaMap = s.areaMap ∧
    (statusRead p s).1.ctl = s.ctl ∧ (statusRead p s).1.timing = s.timing ∧
    (statusRead p s).1.eval = s.eval ∧ (statusRead p s).1.composer = s.composer ∧
    (statusRead p s).1.output = s.output ∧ (statusRead p s).1.pending = s.pending :=
  ⟨rfl, rfl, rfl, rfl, rfl, rfl, rfl, rfl, rfl, rfl, rfl, rfl, rfl, rfl, rfl, rfl⟩

@[simp] theorem timelineRead_frame :
    (timelineRead s).1.now = s.now ∧ (timelineRead s).1.resetLine = s.resetLine ∧
    (timelineRead s).1.powerOnHeld = s.powerOnHeld ∧ (timelineRead s).1.safeLine = s.safeLine ∧
    (timelineRead s).1.cause = s.cause ∧ (timelineRead s).1.ports = s.ports ∧
    (timelineRead s).1.field = s.field ∧ (timelineRead s).1.ingest = s.ingest ∧
    (timelineRead s).1.feed = s.feed ∧ (timelineRead s).1.coast = s.coast ∧
    (timelineRead s).1.areaMap = s.areaMap ∧ (timelineRead s).1.ctl = s.ctl ∧
    (timelineRead s).1.timing = s.timing ∧ (timelineRead s).1.eval = s.eval ∧
    (timelineRead s).1.composer = s.composer ∧ (timelineRead s).1.output = s.output ∧
    (timelineRead s).1.pending = s.pending :=
  ⟨rfl, rfl, rfl, rfl, rfl, rfl, rfl, rfl, rfl, rfl, rfl, rfl, rfl, rfl, rfl, rfl, rfl⟩

@[simp] theorem noticeRead_frame (p : Port) :
    (noticeRead p s).1.now = s.now ∧ (noticeRead p s).1.resetLine = s.resetLine ∧
    (noticeRead p s).1.powerOnHeld = s.powerOnHeld ∧ (noticeRead p s).1.safeLine = s.safeLine ∧
    (noticeRead p s).1.cause = s.cause ∧ (noticeRead p s).1.field = s.field ∧
    (noticeRead p s).1.ingest = s.ingest ∧ (noticeRead p s).1.feed = s.feed ∧
    (noticeRead p s).1.coast = s.coast ∧ (noticeRead p s).1.areaMap = s.areaMap ∧
    (noticeRead p s).1.ctl = s.ctl ∧ (noticeRead p s).1.timing = s.timing ∧
    (noticeRead p s).1.eval = s.eval ∧ (noticeRead p s).1.composer = s.composer ∧
    (noticeRead p s).1.output = s.output ∧ (noticeRead p s).1.pending = s.pending :=
  ⟨rfl, rfl, rfl, rfl, rfl, rfl, rfl, rfl, rfl, rfl, rfl, rfl, rfl, rfl, rfl, rfl⟩

@[simp] theorem noticeMask_frame (p : Port) (x : MaskFields) :
    (noticeMask p x s).1.now = s.now ∧ (noticeMask p x s).1.resetLine = s.resetLine ∧
    (noticeMask p x s).1.powerOnHeld = s.powerOnHeld ∧ (noticeMask p x s).1.safeLine = s.safeLine ∧
    (noticeMask p x s).1.cause = s.cause ∧ (noticeMask p x s).1.field = s.field ∧
    (noticeMask p x s).1.ingest = s.ingest ∧ (noticeMask p x s).1.feed = s.feed ∧
    (noticeMask p x s).1.coast = s.coast ∧ (noticeMask p x s).1.areaMap = s.areaMap ∧
    (noticeMask p x s).1.ctl = s.ctl ∧ (noticeMask p x s).1.timing = s.timing ∧
    (noticeMask p x s).1.eval = s.eval ∧ (noticeMask p x s).1.composer = s.composer ∧
    (noticeMask p x s).1.output = s.output ∧ (noticeMask p x s).1.pending = s.pending := by
  unfold noticeMask; split <;> simp

@[simp] theorem handle_frame (p : Port) (r : Request) :
    (handle p r s).1.now = s.now ∧ (handle p r s).1.resetLine = s.resetLine ∧
    (handle p r s).1.powerOnHeld = s.powerOnHeld ∧ (handle p r s).1.safeLine = s.safeLine ∧
    (handle p r s).1.cause = s.cause ∧ (handle p r s).1.pending = s.pending := by
  unfold handle; split <;> simp

@[simp] theorem takeFrame_frame (p : Port) (f : LinkFrame) :
    (takeFrame p f s).1.now = s.now ∧ (takeFrame p f s).1.resetLine = s.resetLine ∧
    (takeFrame p f s).1.powerOnHeld = s.powerOnHeld ∧ (takeFrame p f s).1.safeLine = s.safeLine ∧
    (takeFrame p f s).1.cause = s.cause ∧ (takeFrame p f s).1.pending = s.pending := by
  unfold takeFrame; (repeat' split) <;> simp

@[simp] theorem State.serve_frame (p : Port) (f : LinkFrame) :
    (s.serve p f).now = s.now ∧ (s.serve p f).resetLine = s.resetLine ∧
    (s.serve p f).powerOnHeld = s.powerOnHeld ∧ (s.serve p f).safeLine = s.safeLine ∧
    (s.serve p f).cause = s.cause ∧ (s.serve p f).pending = s.pending := by
  simp [State.serve]

@[simp] theorem State.goodFrame_frame (p : Port) (f : LinkFrame) :
    (s.goodFrame p f).now = s.now ∧ (s.goodFrame p f).resetLine = s.resetLine ∧
    (s.goodFrame p f).powerOnHeld = s.powerOnHeld ∧ (s.goodFrame p f).safeLine = s.safeLine ∧
    (s.goodFrame p f).cause = s.cause ∧ (s.goodFrame p f).pending = s.pending := by
  unfold State.goodFrame; dsimp only; (repeat' split) <;> simp

@[simp] theorem State.receive_frame (p : Port) (f : LinkFrame) :
    (s.receive p f).now = s.now ∧ (s.receive p f).resetLine = s.resetLine ∧
    (s.receive p f).powerOnHeld = s.powerOnHeld ∧ (s.receive p f).safeLine = s.safeLine ∧
    (s.receive p f).cause = s.cause ∧ (s.receive p f).pending = s.pending := by
  unfold State.receive; dsimp only; (repeat' split) <;> simp

@[simp] theorem State.endReply_frame (p : Port) :
    (s.endReply p).now = s.now ∧ (s.endReply p).resetLine = s.resetLine ∧
    (s.endReply p).powerOnHeld = s.powerOnHeld ∧ (s.endReply p).safeLine = s.safeLine ∧
    (s.endReply p).cause = s.cause ∧ (s.endReply p).pending = s.pending := by
  unfold State.endReply; dsimp only; split <;> simp

end Sys2Proof.Machine
end

