-- ==== Sys2Proof/Laws/Store.lean ====
section
/-! SUPPORT. The laws of the sparse tables: a read after a write, and the canonical form kept. -/

namespace Sys2Proof.Machine

variable {α : Type}

theorem storeGet_insert_self (d : α) (k : Nat) (v : α) (m : Store α) :
    storeGet d k (storeInsert k v m) = v := by
  induction m with
  | nil => simp [storeInsert, storeGet]
  | cons e rest ih =>
    obtain ⟨j, w⟩ := e
    unfold storeInsert
    split
    · simp [storeGet]
    · split
      · simp [storeGet]
      · rename_i h; simpa [storeGet, Ne.symm h] using ih

theorem storeGet_insert_ne (d : α) {k j : Nat} (h : j ≠ k) (v : α) (m : Store α) :
    storeGet d j (storeInsert k v m) = storeGet d j m := by
  induction m with
  | nil => simp [storeInsert, storeGet, h.symm]
  | cons e rest ih =>
    obtain ⟨i, w⟩ := e
    unfold storeInsert
    split
    · simp [storeGet, h.symm]
    · split
      · rename_i hk; subst hk; simp [storeGet, h.symm]
      · simp [storeGet, ih]

theorem storeGet_filter_self (d : α) (k : Nat) (m : Store α) :
    storeGet d k (m.filter fun e => e.1 ≠ k) = d := by
  induction m with
  | nil => rfl
  | cons e rest ih =>
    obtain ⟨j, w⟩ := e
    by_cases h : j = k
    · simpa [List.filter, h] using ih
    · simpa [List.filter, h, storeGet] using ih

theorem storeGet_filter_ne (d : α) {k j : Nat} (h : j ≠ k) (m : Store α) :
    storeGet d j (m.filter fun e => e.1 ≠ k) = storeGet d j m := by
  induction m with
  | nil => rfl
  | cons e rest ih =>
    obtain ⟨i, w⟩ := e
    by_cases hi : i = k
    · have : i ≠ j := fun e => h (e ▸ hi)
      simpa [List.filter, hi, storeGet, h.symm] using ih
    · simp only [ne_eq, hi, not_false_eq_true, decide_true, List.filter_cons_of_pos, storeGet]
      split
      · rfl
      · exact ih

variable [DecidableEq α]

/-- A read after a write of the same key gives the value written. -/
theorem storeGet_put_self (d : α) (k : Nat) (v : α) (m : Store α) :
    storeGet d k (storePut d k v m) = v := by
  unfold storePut
  split
  · rename_i h; rw [h]; exact storeGet_filter_self d k m
  · exact storeGet_insert_self d k v m

/-- A write leaves every other key as it was. -/
theorem storeGet_put_ne (d : α) {k j : Nat} (h : j ≠ k) (v : α) (m : Store α) :
    storeGet d j (storePut d k v m) = storeGet d j m := by
  unfold storePut
  split
  · exact storeGet_filter_ne d h m
  · exact storeGet_insert_ne d h v m

omit [DecidableEq α] in
theorem mem_storeInsert {k : Nat} {v : α} {m : Store α} {e : Nat × α} (h : e ∈ storeInsert k v m) :
    e = (k, v) ∨ e ∈ m := by
  induction m with
  | nil => simpa [storeInsert] using h
  | cons x rest ih =>
    obtain ⟨j, w⟩ := x
    unfold storeInsert at h
    split at h
    · simpa using h
    · split at h
      · rcases List.mem_cons.1 h with h | h
        · exact .inl h
        · exact .inr (List.mem_cons_of_mem _ h)
      · rcases List.mem_cons.1 h with h | h
        · exact .inr (h ▸ List.mem_cons_self)
        · exact (ih h).imp id (List.mem_cons_of_mem _)

/-- An entry after a write is the one written or an entry before it. -/
theorem mem_storePut {d : α} {k : Nat} {v : α} {m : Store α} {e : Nat × α} (h : e ∈ storePut d k v m) :
    e = (k, v) ∨ e ∈ m := by
  unfold storePut at h
  split at h
  · exact .inr (List.mem_filter.1 h).1
  · exact mem_storeInsert h

omit [DecidableEq α] in
theorem keys_storeInsert {k : Nat} (v : α) {m : Store α} (h : (m.map Prod.fst).Pairwise (· < ·)) :
    ((storeInsert k v m).map Prod.fst).Pairwise (· < ·) := by
  induction m with
  | nil => simp [storeInsert]
  | cons e rest ih =>
    obtain ⟨j, w⟩ := e
    rw [List.map_cons, List.pairwise_cons] at h
    unfold storeInsert
    split
    · rename_i hk
      rw [List.map_cons, List.pairwise_cons]
      refine ⟨fun x hx => ?_, by simpa using h⟩
      rw [List.map_cons] at hx
      rcases List.mem_cons.1 hx with rfl | hx
      · exact hk
      · exact hk.trans (h.1 x hx)
    · split
      · rename_i hk; subst hk; simpa using h
      · rename_i h1 h2
        rw [List.map_cons, List.pairwise_cons]
        refine ⟨fun x hx => ?_, ih h.2⟩
        obtain ⟨e, he, rfl⟩ := List.mem_map.1 hx
        rcases mem_storeInsert he with rfl | he
        · exact (by omega : j < k)
        · exact h.1 _ (List.mem_map_of_mem he)

/-- A write keeps the canonical form. -/
theorem storeWf_put {d : α} (k : Nat) (v : α) {m : Store α} (h : storeWf d m) :
    storeWf d (storePut d k v m) := by
  unfold storePut
  split
  · exact ⟨(List.Pairwise.sublist (List.filter_sublist.map _) h.1), fun e he => h.2 e (List.mem_filter.1 he).1⟩
  · rename_i hv
    refine ⟨keys_storeInsert v h.1, fun e he => ?_⟩
    rcases mem_storeInsert he with rfl | he
    · exact hv
    · exact h.2 e he

omit [DecidableEq α] in
/-- The empty table is in canonical form. -/
theorem storeWf_nil (d : α) : storeWf d ([] : Store α) := ⟨List.Pairwise.nil, by simp⟩

omit [DecidableEq α] in
theorem storeGet_of_lt (d : α) {k : Nat} {m : Store α} (h : ∀ e ∈ m, k < e.1) : storeGet d k m = d := by
  induction m with
  | nil => rfl
  | cons e rest ih =>
    have : e.1 ≠ k := (h e List.mem_cons_self).ne'
    obtain ⟨j, w⟩ := e
    simpa [storeGet, this] using ih fun e he => h e (List.mem_cons_of_mem _ he)

omit [DecidableEq α] in
/-- Two tables in canonical form that read alike are equal. -/
theorem storeWf_ext {d : α} {m n : Store α} (hm : storeWf d m) (hn : storeWf d n)
    (h : ∀ k, storeGet d k m = storeGet d k n) : m = n := by
  induction m generalizing n with
  | nil =>
    cases n with
    | nil => rfl
    | cons e rest =>
      have := h e.1
      simp only [storeGet, if_true] at this
      exact absurd this.symm (hn.2 e List.mem_cons_self)
  | cons e rest ih =>
    obtain ⟨hml, hmr⟩ := List.pairwise_cons.1 (List.map_cons .. ▸ hm.1)
    cases n with
    | nil =>
      have := h e.1
      simp only [storeGet, if_true] at this
      exact absurd this (hm.2 e List.mem_cons_self)
    | cons x tail =>
      obtain ⟨hnl, hnr⟩ := List.pairwise_cons.1 (List.map_cons .. ▸ hn.1)
      have hx : e.1 = x.1 := by
        rcases lt_trichotomy e.1 x.1 with hlt | heq | hgt
        · have := h e.1
          rw [storeGet_of_lt (m := x :: tail) d (fun y hy => by
            rcases List.mem_cons.1 hy with rfl | hy
            · exact hlt
            · exact hlt.trans (hnl _ (List.mem_map_of_mem hy)))] at this
          simp only [storeGet, if_true] at this
          exact absurd this (hm.2 e List.mem_cons_self)
        · exact heq
        · have := h x.1
          rw [storeGet_of_lt (m := e :: rest) d (fun y hy => by
            rcases List.mem_cons.1 hy with rfl | hy
            · exact hgt
            · exact hgt.trans (hml _ (List.mem_map_of_mem hy)))] at this
          simp only [storeGet, if_true] at this
          exact absurd this.symm (hn.2 x List.mem_cons_self)
      obtain ⟨j, v⟩ := e
      obtain ⟨j', w⟩ := x
      obtain rfl : j = j' := hx
      have hv : v = w := by simpa [storeGet] using h j
      subst hv
      congr 1
      refine ih ⟨hmr, fun e he => hm.2 e (List.mem_cons_of_mem _ he)⟩
        ⟨hnr, fun e he => hn.2 e (List.mem_cons_of_mem _ he)⟩ fun k => ?_
      by_cases hk : j = k
      · subst hk
        rw [storeGet_of_lt d fun e he => hml _ (List.mem_map_of_mem he),
          storeGet_of_lt d fun e he => hnl _ (List.mem_map_of_mem he)]
      · simpa [storeGet, hk] using h k

end Sys2Proof.Machine
end

