-- ==== Sys2Proof/Tests/Slice0.lean ====
section
/-! SUPPORT. Tests: the ill-formed operands WellFormed refuses, payloads written out from R163 and R164, the spec's
worked examples, and for every statement a state and operands that meet its hypotheses. -/

namespace Sys2Proof.Tests

open Sys2Proof Sys2Proof.Machine

set_option Elab.async false

/-! ### WellFormed refuses an operand its carrier cannot hold (R163, R164) -/

def noLayers : LayerSet := ⟨false, false, false, false, false, false, false⟩
def noPage : PageFields := ⟨0, 0, 0, 0, 0, noLayers, 0, 0, 0, 0, none⟩
def noBands : BandFields := ⟨none, none, none, none, none, none, none⟩

theorem test_wellFormed_refuses_numbers :
    [Instr.gridDefine 65536 8, .gridDefine 8 65536, .stepDrop 65536, .stepOpen 65536 0 [], .stepOpen 0 0 [65536],
     .areaMapBegin 65536 0, .areaMapBegin 0 65536, .pageRead 65536, .cue 65536 none, .cue 0 (some 65536),
     .insert 65536, .jump 65536, .cellRead .pp 65536 0 1, .cellRead .pp 0 65536 1, .cellRead .pp 0 0 65536,
     .framingError .ip 65536].all (fun i => !i.wellFormed) = true := by decide +kernel

theorem test_wellFormed_refuses_codes :
    [Instr.stepOpen 0 256 [], .coastLineNew 256 false [], .referenceSet 256 0, .safeSet 256 none,
     .safeSet 0 (some 256), .lineup 256, .outputMode 256 0, .pageWrite 0 { noPage with endCode := 256 },
     .feedSettings ⟨some 256, none, none, none⟩, .bandsWrite { noBands with mode := some 256 },
     .noticeMask .ip ⟨some 256, none, none, none, none⟩, .noticeMask .ip ⟨none, some 256, none, none, none⟩,
     .noticeMask .ip ⟨none, none, some 256, none, none⟩, .noticeMask .ip ⟨none, none, none, some 256, none⟩,
     .noticeMask .ip ⟨none, none, none, none, some 256⟩].all (fun i => !i.wellFormed) = true := by decide +kernel

theorem test_wellFormed_refuses_signed_numbers :
    [Instr.cellBlock 0 0 1 [⟨some ⟨32768, 0⟩, none⟩], .cellBlock 0 0 1 [⟨some ⟨0, -32769⟩, none⟩],
     .cellBlock 0 0 1 [⟨none, some 32768⟩], .coastLineNew 0 false [⟨32768, 0⟩], .coastLineContinue [⟨0, -32769⟩],
     .bandsWrite { noBands with tide := some [-32769] }].all (fun i => !i.wellFormed) = true := by decide +kernel

theorem test_wellFormed_refuses_counts_and_lists :
    [Instr.cellBlock 0 0 2 [⟨none, none⟩], .areaMapRow 0 0 2 [⟨1, false⟩], .areaMapRow 0 0 1 [⟨65536, false⟩],
     .stepOpen 0 0 (List.replicate 256 1), .coastLineContinue (List.replicate 256 ⟨0, 0⟩),
     .bandsWrite { noBands with force := some (List.replicate 256 1) },
     .linkFrameReceived .ip ⟨1, 0, List.replicate 1019 0, 0⟩ 0, .windowCutCompletion (.stack 2)].all
      (fun i => !i.wellFormed) = true := by decide +kernel

theorem test_wellFormed_refuses_optional_numbers :
    [Instr.feedSettings ⟨none, some (65536, 0), none, none⟩, .feedSettings ⟨none, some (0, 65536), none, none⟩,
     .feedSettings ⟨none, none, some 65536, none⟩, .feedSettings ⟨none, none, none, some 65536⟩,
     .bandsWrite { noBands with forceHyst := some 65536 }, .bandsWrite { noBands with tideHyst := some 65536 },
     .bandsWrite { noBands with slack := some 65536 }, .bandsWrite { noBands with galeBand := some 65536 },
     .pageWrite 65536 noPage, .pageWrite 0 { noPage with width := 65536 },
     .pageWrite 0 { noPage with start := some 65536 }].all (fun i => !i.wellFormed) = true := by decide +kernel

/-! ### Payloads and frames written out by hand (R163, R164) -/

theorem test_check_of_nine_octets :
    linkCheck [0x31, 0x32, 0x33, 0x34, 0x35, 0x36, 0x37, 0x38, 0x39] = 0x29B1#16 := by decide +kernel

theorem test_decodes_grid_define :
    decodeRequest 0x01 [0x00, 0x28, 0x00, 0x1E] = some (.gridDefine 40 30) := by decide +kernel

theorem test_decodes_cell_block :
    decodeRequest 0x04 [0, 2, 0, 3, 0, 2, 1, 0xFF, 0xFE, 0x01, 0x00, 0, 0, 1, 0xFC, 0x18]
      = some (.cellBlock 2 3 2 [⟨some ⟨-2, 256⟩, none⟩, ⟨none, some (-1000)⟩]) := by decide +kernel

theorem test_decodes_coast_line :
    decodeRequest 0x11 [0, 2, 0, 16, 0, 0, 5, 255, 3, 255, 2, 1]
        = some (.coastLineNew 2 true [⟨16, 0⟩, ⟨1535, 1023⟩])
    ∧ decodeRequest 0x11 [1, 1, 0, 1, 0xFF, 0xFF] = some (.coastLineContinue [⟨1, -1⟩]) := by decide +kernel

theorem test_decodes_page_layers :
    decodeRequest 0x18 [0x80, 0x00, 0x00, 0x01, 0x03]
      = some (.pageLayers 0x80000001#32 ⟨true, true, false, false, false, false, false⟩) := by decide +kernel

theorem test_decodes_optional_fields :
    decodeRequest 0x1A [0, 3, 1, 0, 240] = some (.cue 3 (some 240))
    ∧ decodeRequest 0x35 [1, 0] = some (.safeSet 1 none)
    ∧ decodeRequest 0x45 [1, 2, 0, 0, 0, 1, 0] = some (.noticeMask ⟨some 2, none, none, none, some 0⟩) := by decide +kernel

theorem test_refuses_short_and_long_payloads :
    decodeRequest 0x22 [0] = none ∧ decodeRequest 0x22 [0, 1, 2] = none ∧ decodeRequest 0x24 [] = none := by decide +kernel

/-! ### Worked examples of the spec -/

/-- R25's list. -/
theorem test_warning_list : cleanWarnings [4, 0, 17, 4, 40, 9] = ([4, 17, 9], 2) := by decide +kernel

/-- R41's table. -/
theorem test_compact_counts :
    [0, 15, 16, 100, 491520, 600000].map compactPair = [(0, 0), (15, 0), (8, 1), (13, 3), (15, 15), (15, 15)] := by
  decide +kernel

/-- R65's weights. -/
theorem test_weights :
    (List.range 8).map (frameWeight · 8) = [0, 32, 64, 96, 128, 160, 192, 224]
    ∧ (List.range 3).map (frameWeight · 3) = [0, 85, 170] ∧ frameWeight 249 250 = 254 := by decide +kernel

/-- R69's table. -/
theorem test_blend :
    [blend 0 1 127, blend 0 1 128, blend 0 (-1) 128, blend 0 (-1) 129, blend 200 (-40) 200] = [0, 1, 0, -1, 13] := by
  decide +kernel

/-- R70's largest speed. -/
theorem test_largest_speed : windSpeed ⟨-1500, 1500⟩ = 2062 := by decide +kernel

/-- R72's examples. -/
theorem test_sectors :
    [windDirection ⟨0, 5⟩, windDirection ⟨5, 0⟩, windDirection ⟨10, 10⟩, windDirection ⟨-10, 10⟩,
     windDirection ⟨10, -10⟩, windDirection ⟨-10, -10⟩, windDirection ⟨-5, 0⟩, windDirection ⟨0, 0⟩]
      = [.sector 0, .sector 4, .sector 2, .sector 14, .sector 6, .sector 10, .sector 12, .calm] := by decide +kernel

/-- R89 and R90: a list out of order is raised step by step and held below its caps. -/
theorem test_thresholds :
    adjustForceList [0, 0, 70, 70, 5000, 5000, 5000, 5000, 5000, 5000, 5000, 5000]
        = [1, 2, 70, 71, 2055, 2056, 2057, 2058, 2059, 2060, 2061, 2062]
    ∧ adjustTideList [-2000, 0, 0, 3000, 3000, 3000, 3000] = [-1000, 0, 1, 1997, 1998, 1999, 2000] := by decide +kernel

/-- R123's table. -/
theorem test_rates :
    [Rate.r25, .r30, .r50, .r60].map nominalPeriod = [40000, 33333, 20000, 16667] := by decide +kernel

/-- R71's class 1 in each of R72's eight rows, by hand. -/
theorem test_class_one_sectors :
    [windDirection ⟨2, 5⟩, windDirection ⟨-2, 5⟩, windDirection ⟨2, -5⟩, windDirection ⟨-2, -5⟩,
     windDirection ⟨5, 2⟩, windDirection ⟨5, -2⟩, windDirection ⟨-5, 2⟩, windDirection ⟨-5, -2⟩]
      = [.sector 1, .sector 15, .sector 7, .sector 9, .sector 3, .sector 5, .sector 13, .sector 11] := by
  decide +kernel

/-- R31's table: a dropped part counts one, and u, v and the height are set to their nearer limits. -/
theorem test_adjustments :
    adjustValue .tide ⟨some ⟨2000, 0⟩, some 3000⟩ = (⟨none, some 2000⟩, 2)
    ∧ adjustValue .both ⟨some ⟨2000, -2000⟩, some (-1000)⟩ = (⟨some ⟨1500, -1500⟩, some (-1000)⟩, 2)
    ∧ adjustValue .wind ⟨none, some 5⟩ = (⟨none, none⟩, 1) := by decide +kernel

def page : Page :=
  { originCol := 0, originRow := 0, width := 8, height := 8, stride := 1, layers := noLayers, first := 0, last := 10,
    framesPerStep := 4, endAction := .holdLast, start := none }

/-- R97's table, on a grid of 40 columns by 30 rows. -/
theorem test_windows :
    clampWindow (some ⟨40, 30⟩) { page with originCol := 10, originRow := 5, width := 12, height := 8 } = ⟨10, 5, 12, 8⟩
    ∧ clampWindow (some ⟨40, 30⟩) { page with originCol := 30, originRow := 20, width := 16, height := 12 }
        = ⟨24, 18, 16, 12⟩
    ∧ clampWindow (some ⟨40, 30⟩) { page with originCol := 5, originRow := 0, width := 60, height := 20 }
        = ⟨0, 0, 40, 20⟩
    ∧ clampWindow (some ⟨40, 30⟩) { page with originCol := 95, originRow := 63, width := 4, height := 4 }
        = ⟨36, 26, 4, 4⟩ := by decide +kernel

/-- R58: each edge in turn, and a half rounded away from zero. -/
theorem test_clipping :
    clipSegment ⟨0, 0, 8, 8⟩ (⟨-10, 5⟩, ⟨10, 8⟩) = some (⟨0, 7⟩, ⟨10, 8⟩)
    ∧ clipSegment ⟨0, 0, 8, 8⟩ (⟨120, 0⟩, ⟨140, 40⟩) = some (⟨120, 0⟩, ⟨127, 14⟩)
    ∧ clipSegment ⟨0, 0, 8, 8⟩ (⟨130, 0⟩, ⟨140, 40⟩) = none := by decide +kernel

/-- The host's question of a word: no row has bits, so no word spells a command. -/
theorem test_no_word_spells_a_command : decodeTableWord 16 0xC301 = none := by decide +kernel

/-! ### States for the witnesses -/

def reset : State := State.reset
def held : State := { reset with resetLine := true }

/-- A step of one cell, with `pins` references to it. -/
def stepOf (state : SlotState) (hour pins : Nat) : Slot :=
  { state := state, hour := some hour, fieldSet := some .both, generation := 1, pins := pins, loaded := 1,
    warnings := [], cells := [(0, ⟨some ⟨3, 4⟩, some 7⟩)] }

def refA : SlotRef := ⟨0, 5, 1⟩
def refB : SlotRef := ⟨1, 8, 1⟩

def context : Context :=
  { page := 0, origin := .cued, copy := page, startUsed := 0, window := ⟨0, 0, 8, 8⟩, coast := ⟨.awaiting, [], 0⟩,
    stepA := some refA, stepB := some refB, phase := 2, ended := false, prep := none }

/-- A starved NEXT that is READY. -/
def cued : Context := { context with stepA := none, stepB := none, phase := 0, prep := some .ready }

/-- Hours 5 and 8 in slots 0 and 1, with the pins that the context `x` in LIVE takes; slot 0 in a state of choice. -/
def storeWith (state : SlotState) (x : Option Context) : FieldStore :=
  let pins (i : SlotId) := ((contextRefs x).filter fun r => r.slot = i).length
  { grid := some ⟨8, 8⟩
    slots := ((Vector.replicate 16 Slot.initial).set 0 (stepOf state 5 (pins 0))).set 1 (stepOf .ready 8 (pins 1))
    timeline := if state = .ready then [0, 1] else [1] }

/-- The page of number 0 defined, `x` in LIVE and `n` in NEXT. -/
def aired (x n : Option Context) (state : SlotState := .ready) : State :=
  { reset with
    field := storeWith state x
    ctl := { ShowController.initial with
      pages := (Vector.replicate 32 none).set 0 (some page), live := x, next := n } }

/-- A load of hour 5 in slot 2, in a phase of choice, beside the two published steps. -/
def loadIn (phase : LoadPhase) : OpenLoad :=
  { phase := phase, slot := 2, hour := 5, fieldSet := .both, clamps := 0, misplaced := 0 }
def loading (phase : LoadPhase) : State :=
  { aired (some context) none with
    field := { storeWith .ready (some context) with
      slots := (storeWith .ready (some context)).slots.set 2 (stepOf .loading 5 0) }
    ingest := { Ingest.initial with load := some (loadIn phase) } }

/-- `FieldSound` as conditions on the sixteen slots, the load and the references held. -/
theorem fieldSound_of (s : State)
    (h : (∀ i, (s.field.slot i).state = .ready ↔ i ∈ s.field.timeline)
      ∧ (s.field.timeline.Pairwise fun i j => s.field.hourOf i < s.field.hourOf j)
      ∧ (∀ i, (s.field.slot i).state = .loading ↔ (s.ingest.load.any fun l => l.slot = i) = true)
      ∧ (∀ i, (s.field.slot i).state = .free → s.field.slot i = (s.field.slot i).freed)
      ∧ (∀ i, (s.field.slot i).state ≠ .free →
          ((s.field.slot i).hour.any fun k => k ≤ 240) = true ∧ (s.field.slot i).fieldSet.isSome = true)
      ∧ (s.ingest.load.all fun l => (s.field.slot l.slot).hour = some l.hour
          ∧ (s.field.slot l.slot).fieldSet = some l.fieldSet) = true
      ∧ (∀ i, (s.field.slot i).pins = s.referencesTo i)
      ∧ (∀ i, (s.field.slot i).state = .retiring → 1 ≤ (s.field.slot i).pins)
      ∧ ∀ r ∈ s.references,
          ((s.field.slot r.slot).state = .ready ∨ (s.field.slot r.slot).state = .retiring)
            ∧ (s.field.slot r.slot).hour = some r.hour ∧ (s.field.slot r.slot).generation = r.generation) :
    s.FieldSound := by
  obtain ⟨h1, h2, h3, h4, h5, h6, h7, h8, h9⟩ := h
  refine ⟨h1, h2, fun i => (h3 i).trans (by simp [Option.any_eq_true]), h4, fun i hi => ?_, fun l hl => ?_, h7, h8, h9⟩
  · obtain ⟨a, b⟩ := h5 i hi
    exact ⟨by simpa [Option.any_eq_true] using a, b⟩
  · simpa [hl] using h6

/-- The first READY slot of a range, as conditions on the sixteen slots. -/
theorem firstReady_of (f : FieldStore) (lo hi : Nat) (q : SlotRef)
    (h : (f.slot q.slot).state = .ready ∧ (f.slot q.slot).hour = some q.hour
      ∧ (f.slot q.slot).generation = q.generation ∧ (lo ≤ q.hour ∧ q.hour ≤ hi)
      ∧ ∀ j, (f.slot j).state = .ready →
          ((f.slot j).hour.all fun k => (lo ≤ k ∧ k ≤ hi) → q.hour ≤ k) = true) :
    f.IsFirstReady lo hi q := by
  obtain ⟨h1, h2, h3, h4, h5⟩ := h
  refine ⟨h1, ⟨h2, h3⟩, h4, fun j k hj hk a b => ?_⟩
  simpa [hk, a, b] using h5 j hj

/-- It is the only one where no two READY slots have its hour. -/
theorem firstReady_iff (f : FieldStore) (lo hi : Nat) (q : SlotRef) (h : f.IsFirstReady lo hi q)
    (u : ∀ j, (f.slot j).state = .ready → (f.slot j).hour = some q.hour → j = q.slot) :
    ∀ r, some q = some r ↔ f.IsFirstReady lo hi r := by
  refine fun r => ⟨fun e => Option.some.inj e ▸ h, fun k => ?_⟩
  have e : r.hour = q.hour :=
    Nat.le_antisymm (k.first _ _ h.ready h.names.1 h.range.1 h.range.2)
      (h.first _ _ k.ready k.names.1 k.range.1 k.range.2)
  have s := u _ k.ready (e ▸ k.names.1)
  have g : q.generation = r.generation := by rw [← h.names.2, ← k.names.2, s]
  cases q; cases r; simp_all

/-- No READY slot in a range. -/
theorem noReady_of (f : FieldStore) (lo hi : Nat)
    (h : ∀ j, (f.slot j).state = .ready → ((f.slot j).hour.all fun k => ¬ (lo ≤ k ∧ k ≤ hi)) = true) :
    ∀ r, ¬ f.IsFirstReady lo hi r := by
  intro r k
  have := h r.slot k.ready
  rw [k.names.1] at this
  simp [k.range.1] at this
  exact absurd k.range.2 (by omega)

theorem noReady_iff (f : FieldStore) (lo hi : Nat) (h : ∀ r, ¬ f.IsFirstReady lo hi r) :
    ∀ r, (none : Option SlotRef) = some r ↔ f.IsFirstReady lo hi r :=
  fun r => ⟨fun e => absurd e (by simp), fun k => absurd k (h r)⟩

/-- The steps published, aired and loading, with nothing amiss in the store. -/
theorem sound_published : (aired none none).FieldSound := fieldSound_of _ (by decide +kernel)
theorem sound_aired : (aired (some context) (some cued)).FieldSound := fieldSound_of _ (by decide +kernel)
theorem sound_loading : (loading .opened).FieldSound := fieldSound_of _ (by decide +kernel)

/-! ### Every statement's hypotheses are met: the queue, the links, the invariants -/

def withFeed (f : FeedMonitor → FeedMonitor) : State := { reset with feed := f reset.feed }
def withTiming (f : FrameTiming → FrameTiming) (m : Mode := .onAir) : State :=
  { reset with timing := f reset.timing, output := { reset.output with mode := m }, now := 1000000 }
def withPort (p : Port) (f : PortState → PortState) : State := reset.modifyPort p f

theorem witness_StepTakesFrontCommand :
    ({ reset with pending := [.take, .hold] } : State).pending = .take :: [.hold] := by decide +kernel

/-- The tick before the end of a window of ten seconds and the tick at it, the same of a timeout of thirty, and a
stopped timer at its timeout. -/
theorem witness_SecondsTimebaseTicks :
    (∀ e ∈ [8, 9], ∀ k ∈ [28, 29], ∀ r ∈ [true, false],
      let s := withFeed fun f => { f with elapsed := e, staleSeconds := k, staleRunning := r }
      s.pending = [] ∧ s.resetLine = false ∧ windowLength s.feed.window = some 10
        ∧ (10 ≤ s.feed.elapsed + 1 ↔ e = 9)
        ∧ ((s.feed.staleRunning = true ∧ s.feed.staleTimeout ≤ s.feed.staleSeconds + 1) ↔ (r = true ∧ k = 29)))
    ∧ (let s := withFeed fun f => { f with staleSeconds := 30, staleRunning := false }
       s.feed.staleSeconds = s.feed.staleTimeout ∧ s.feed.staleRunning = false)
    ∧ (withFeed fun f => { f with window := .continuous }).feed.window = .continuous := by decide +kernel

theorem witness_ResetLineFreezes :
    reset.resetLine = false ∧ held.resetLine = true ∧ held.pending = []
    ∧ Instr.take.actsWhileReset = false ∧ (Instr.frefPulse 5).actsWhileReset = false := by decide +kernel

theorem witness_RequestCommandsAreHandled :
    (Instr.take.request? = some .take ∧ Instr.take.requestPort = some .pp)
    ∧ ((Instr.statusRead .dp).request? = some .statusRead ∧ (Instr.statusRead .dp).requestPort = some .dp)
    ∧ (Instr.cellBlock 0 0 1 [⟨none, none⟩]).requestPort = some .ip := by decide +kernel

theorem witness_RestartPutsInitialValues :
    reset.resetLine = false ∧ held.resetLine = true ∧ ({ held with powerOnHeld := true } : State).resetLine = true := by
  decide +kernel

theorem witness_RequestRoundTrip :
    (Request.cellBlock 65535 0 1 [⟨some ⟨-32768, 32767⟩, none⟩]).wellFormed = true
    ∧ (Request.bandsWrite { noBands with tide := some [-1, 0], mode := some 255 }).wellFormed = true := by decide +kernel

/-- A TAKE with a good check, an unknown kind, a kind of another port, and a payload too long for its kind. -/
def frameOf (kind : Octet) (payload : List Octet) : LinkFrame := ⟨kind, 7, payload, frameCheck kind 7 payload⟩

theorem witness_FrameTakesItsRequest :
    (∀ f ∈ [frameOf 0x30 [], frameOf 0x00 [], frameOf 0x24 [], frameOf 0x80 [], frameOf 0x01 [], frameOf 0x37 [],
        frameOf 0x37 [2]],
      f.payload.length ≤ 1018 ∧ f.check = frameCheck f.kind f.tag f.payload)
    ∧ (reset.ports.get .pp).serving = none ∧ (reset.ports.get .pp).buffer = [] := by decide +kernel

def someReply : ReplyFrame :=
  { kind := 0xB0, tag := 7, reply := { outcome := .done, header := statusHeader reset .pp, fields := [] } }
def busyPort (n : Nat) : State :=
  withPort .ip fun x => { x with serving := some someReply, buffer := List.replicate n (frameOf 0x08 []) }

theorem witness_PortEventsJudged :
    (2 ≤ ((busyPort 2).ports.get .ip).buffer.length)
    ∧ (((busyPort 1).ports.get .ip).buffer.length < 2
        ∧ { frameOf 0x08 [] with check := 0 }.check ≠ frameCheck 0x08 7 []
        ∧ (frameOf 0x08 []).check = frameCheck 0x08 7 [] ∧ ((busyPort 1).ports.get .ip).serving ≠ none)
    ∧ (((withPort .ip fun x => { x with receiver := .receiving }).ports.get .ip).receiver = .receiving
        ∧ (1 < 2 ∧ 1020 < 1021) ∧ (2 ≤ 2 ∧ 1020 ≤ 1020)
        ∧ (1020 < 0x04C3 ∧ 0x04C3 % 256 = 0xC3) ∧ (1020 < 0xC300 ∧ 0xC300 / 256 % 256 = 0xC3))
    ∧ (reset.ports.get .ip).receiver = .hunting ∧ (reset.ports.get .ip).serving = none
    ∧ (((busyPort 0).ports.get .ip).serving = some someReply ∧ ((busyPort 0).ports.get .ip).buffer = [])
    ∧ ((busyPort 1).ports.get .ip).buffer = frameOf 0x08 [] :: [] := by decide +kernel

theorem witness_ReadsChangeNothing :
    reset.resetLine = false ∧ (1 ≤ 1 ∧ 1 ≤ 96) ∧ (1 ≤ 96 ∧ 96 ≤ 96) ∧ 0 < 1 ∧ 96 < 97 := by decide +kernel

theorem witness_PageReadReports :
    31 < 32 ∧ reset.ctl.page 31 = none ∧ (aired none none).ctl.page 0 = some page := by decide +kernel

theorem witness_StatusAndNoticeReadClear :
    reset.resetLine = false ∧ (reset.ports.get .dp).resetSeen = true
    ∧ ((withPort .pp fun x => { x with record := { x.record with refLost := true } }).ports.get .pp).record.get .refLost
        = true := by decide +kernel

theorem witness_NoticesFollowMasks :
    (∃ g c, maskCode ⟨some 3, none, none, none, none⟩ g = some c ∧ 2 < c)
    ∧ (∀ g c, maskCode ⟨some 0, some 1, some 2, none, none⟩ g = some c → c ≤ 2)
    ∧ maskCode ⟨some 0, some 1, some 2, none, none⟩ .timing = none
    ∧ reset.attention .pp = false
    ∧ (let s := withPort .pp fun x => { x with record := { x.record with refLost := true } }
       s.resetLine = false ∧ s.attention .pp = true ∧ s.attention .dp = false) := by
  refine ⟨⟨.feed, 3, rfl, by decide⟩, fun g c h => ?_, rfl, by decide +kernel⟩
  cases g <;> simp [maskCode] at h <;> omega

/-! ### The invariants hold together of a state with two steps published, a page on air and one cued -/

def onAir : State := { aired (some context) (some cued) with pending := [.take] }

theorem sound_cells : onAir.CellsSound := by
  refine ⟨by decide +kernel, by decide +kernel, fun i fs h e he => ?_, by decide +kernel, by decide +kernel⟩
  have key : ∀ i, (onAir.field.slot i).cells = [] ∨ ((onAir.field.slot i).cells = [(0, ⟨some ⟨3, 4⟩, some 7⟩)]
      ∧ (onAir.field.slot i).fieldSet = some .both) := by decide +kernel
  rcases key i with k | ⟨k, k'⟩
  · simp [k] at he
  · rw [k'] at h
    cases h
    simp [k] at he
    simp [he, CellValue.allowed]

theorem absent {α : Type} {o : Option α} (n : o = none) {x : α} {P : Prop} (h : o = some x) : P := by
  rw [n] at h
  cases h

theorem sound_stores : onAir.IngestSound ∧ onAir.FeedSound ∧ onAir.CoastSound ∧ onAir.TablesSound ∧ onAir.BandsSound :=
  ⟨⟨by decide, fun _ h => absent rfl h, fun _ h => absent rfl h, fun _ h => absent rfl h, by decide⟩,
    ⟨by decide, by decide, by decide, by decide, fun n h => by cases h; decide, by decide⟩,
    ⟨rfl, by decide, by decide, by decide, by decide, fun _ h => absent rfl h, by decide⟩,
    ⟨by decide, fun _ h => absent rfl h, fun _ h => absent rfl h, fun _ h => by cases h; decide⟩,
    ⟨by decide, by decide, by decide, by decide, by decide⟩, fun _ h => absent rfl h⟩

theorem sound_page : page.Sound :=
  ⟨by decide, by decide, by decide, by decide, by decide, fun _ h => absent rfl h⟩

theorem sound_show : onAir.ShowSound ∧ onAir.StackSound := by
  have live : context.Sound onAir.field.grid onAir.coast :=
    ⟨sound_page, by decide, by decide, by decide, by decide, fun a b h k => by cases h; cases k; decide, by decide,
      by decide, by decide, by decide⟩
  have next : cued.Sound onAir.field.grid onAir.coast :=
    ⟨sound_page, by decide, by decide, by decide, by decide, fun a b h => absent rfl h, by decide, by decide,
      by decide, by decide⟩
  refine ⟨⟨fun i p h => ?_, by decide, by decide, fun x h => ?_, fun x h => ?_, fun x h => ?_⟩, by decide, by decide⟩
  · have key : ∀ i, onAir.ctl.page i = none ∨ onAir.ctl.page i = some page := by decide +kernel
    rcases key i with k | k
    · exact absent k h
    · rw [k] at h
      cases h
      exact sound_page
  · cases h
    exact ⟨next, by decide⟩
  · cases h
    exact ⟨live, by decide⟩
  · cases h

theorem sound_output : onAir.Bounded ∧ onAir.TimingSound ∧ onAir.ComposerSound ∧ onAir.OutputSound ∧ onAir.NoticesSound :=
  ⟨⟨by decide, by decide, by decide, fun p => by cases p <;> decide, by decide, by decide, by decide⟩,
    ⟨by decide, by decide, by decide, by decide, by decide, by decide, by decide, by decide, by decide⟩,
    ⟨by decide, fun _ h => absent rfl h, fun _ h => absent rfl h, by decide⟩,
    ⟨by decide, by decide, by decide, by decide, by decide, by decide⟩,
    fun p => by cases p <;> exact ⟨fun e _ => by cases e <;> rfl, by decide, by decide⟩⟩

theorem sound_field : onAir.FieldSound := fieldSound_of _ (by decide +kernel)

/-- A TAKE at its front is a step from that state: FieldStoreStaysSound, PublishedStepsAreFixed, StoresStaySound,
ShowStaysSound, TimingStaysSound and OutputSideStaysSound have their hypotheses met there together. -/
theorem witness_StaysSound :
    (∃ t, step onAir = .next t) ∧ (onAir.field.slot 0).state = .ready ∧ onAir.FieldSound ∧ onAir.CellsSound
    ∧ (onAir.IngestSound ∧ onAir.FeedSound ∧ onAir.CoastSound ∧ onAir.TablesSound ∧ onAir.BandsSound)
    ∧ (onAir.ShowSound ∧ onAir.StackSound)
    ∧ onAir.Bounded ∧ onAir.TimingSound ∧ onAir.ComposerSound ∧ onAir.OutputSound ∧ onAir.NoticesSound :=
  ⟨⟨_, rfl⟩, by decide +kernel, sound_field, sound_cells, sound_stores, sound_show, sound_output⟩

theorem witness_OwnersAloneChange :
    (∃ t, exec .take onAir = .next t) ∧ (∀ p f k, Instr.take ≠ .linkFrameReceived p f k)
    ∧ (∀ p k, Instr.take ≠ .replySent p k) ∧ (∀ k, Instr.take ≠ .powerOn k) ∧ ∀ k, Instr.take ≠ .resetLineRelease k :=
  ⟨⟨_, rfl⟩, by simp, by simp, by simp, by simp⟩

/-! ### The Field Store, forecast ingest and the Feed Monitor -/

/-- An empty store on a defined grid, with NEXT waiting. -/
def gridded : State :=
  { aired none (some cued) with field := { FieldStore.initial with grid := some ⟨8, 8⟩ } }

theorem sound_gridded : gridded.ShowSound := by
  have next : cued.Sound gridded.field.grid gridded.coast :=
    ⟨sound_page, by decide, by decide, by decide, by decide, fun a b h => absent rfl h, by decide, by decide,
      by decide, by decide⟩
  refine ⟨fun i p h => ?_, by decide, by decide, fun x h => ?_, fun x h => absent rfl h, fun x h => by cases h⟩
  · have key : ∀ i, gridded.ctl.page i = none ∨ gridded.ctl.page i = some page := by decide +kernel
    rcases key i with k | k
    · exact absent k h
    · rw [k] at h
      cases h
      exact sound_page
  · cases h
    exact ⟨next, by decide⟩

theorem witness_GridDefineSetsGrid :
    (∃ i, (onAir.field.slot i).state ≠ .free) ∧ (∀ i, (gridded.field.slot i).state = .free) ∧ gridded.ShowSound
    ∧ ¬ (8 ≤ 7 ∧ 7 ≤ 96 ∧ 8 ≤ 8 ∧ 8 ≤ 64) ∧ ¬ (8 ≤ 8 ∧ 8 ≤ 96 ∧ 8 ≤ 65 ∧ 65 ≤ 64)
    ∧ (8 ≤ 8 ∧ 8 ≤ 96 ∧ 8 ≤ 64 ∧ 64 ≤ 64) := by
  refine ⟨by decide +kernel, by decide +kernel, sound_gridded, ?_, ?_, ?_⟩ <;> decide

/-- Hour 240 has no READY slot, hour 5 has slot 0, pinned or not, and the load of slot 2 has hour 5 too. -/
theorem witness_TimelineTakesAndDropsHours :
    240 < 241 ∧ (∀ i, (onAir.field.slot i).state = .ready → (onAir.field.slot i).hour ≠ some 240) ∧ onAir.FieldSound
    ∧ ((onAir.field.slot 0).state = .ready ∧ (onAir.field.slot 0).hour = some 5 ∧ 1 ≤ (onAir.field.slot 0).pins)
    ∧ (aired none none).FieldSound ∧ ((aired none none).field.slot 0).pins = 0
    ∧ (loading .opened).FieldSound ∧ (loading .opened).ingest.load = some (loadIn .opened)
    ∧ ((loading .opened).field.slot 0).hour = some (loadIn .opened).hour := by
  refine ⟨by decide, by decide +kernel, sound_field, by decide +kernel, sound_published, by decide +kernel,
    sound_loading, rfl, by decide +kernel⟩

def fullStore : State :=
  { gridded with field := { gridded.field with slots := Vector.replicate 16 (stepOf .ready 5 0) } }

theorem witness_StepOpenOpensLoad :
    2 < 3 ∧ 16 < (List.replicate 17 1).length ∧ (List.replicate 16 1).length ≤ 16 ∧ reset.field.grid = none
    ∧ gridded.field.grid ≠ none ∧ 240 < 241 ∧ 240 ≤ 240 ∧ (loading .opened).ingest.load ≠ none
    ∧ gridded.ingest.load = none ∧ (∀ i, (fullStore.field.slot i).state ≠ .free) ∧ fullStore.ingest.load = none
    ∧ fieldSetOfCode 2 = some .both ∧ ((aired none none).field.slot 2).state = .free
    ∧ ∀ j : SlotId, j < 2 → ((aired none none).field.slot j).state ≠ .free := by decide +kernel

def block : CellBlock := { row := 7, firstCol := 7, count := 1, values := [⟨some ⟨9, 9⟩, none⟩] }
def queued (n : Nat) (m : Mode) (flight : Option CellBlock) : State :=
  { loading .opened with
    ingest := { (loading .opened).ingest with queue := List.replicate n (.block block), inFlight := flight }
    output := { reset.output with mode := m } }

theorem witness_BlocksAndCloseAreQueued :
    0 < 1 ∧ 96 < 97 ∧ ([] : List CellValue).length ≠ 1 ∧ block.values.length = 1
    ∧ reset.ingest.load = none ∧ (loading .closing).ingest.load = some (loadIn .closing)
    ∧ (loadIn .closing).phase ≠ .opened ∧ (loadIn .opened).phase = .opened
    ∧ (64 ≤ (queued 64 .standby (some block)).ingest.queue.length)
    ∧ ((queued 63 .standby (some block)).ingest.queue.length < 64
        ∧ (queued 63 .standby (some block)).ingest.inFlight ≠ none)
    ∧ ((queued 63 .dormant none).output.mode = .dormant)
    ∧ ((queued 0 .standby none).ingest.inFlight = none ∧ (queued 0 .standby none).output.mode ≠ .dormant
        ∧ (queued 0 .standby none).ingest.queue = [] ∧ (queued 0 .standby none).field.grid = some ⟨8, 8⟩
        ∧ ((queued 0 .standby none).field.slot 2).loaded * 100 / (8 * 8) < reset.feed.coverageMin)
    ∧ { reset.feed with coverageMin := 0 }.coverageMin ≤ 1 := by decide +kernel

def draining (phase : LoadPhase) (b : CellBlock) : State :=
  { loading phase with ingest := { (loading phase).ingest with inFlight := some b } }

theorem sound_draining : (draining .opened block).CellsSound := by
  refine ⟨by decide +kernel, by decide +kernel, fun i fs h e he => ?_, by decide +kernel, by decide +kernel⟩
  have key : ∀ i, ((draining .opened block).field.slot i).cells = []
      ∨ (((draining .opened block).field.slot i).cells = [(0, ⟨some ⟨3, 4⟩, some 7⟩)]
        ∧ ((draining .opened block).field.slot i).fieldSet = some .both) := by decide +kernel
  rcases key i with k | ⟨k, k'⟩
  · simp [k] at he
  · rw [k'] at h
    cases h
    simp [k] at he
    simp [he, CellValue.allowed]

/-- A block in the last cell of the grid, one a column beyond it, and one a row beyond it. -/
theorem witness_DrainCompletes :
    (draining .cancelling block).ingest.inFlight = some block
    ∧ (draining .cancelling block).ingest.load = some (loadIn .cancelling) ∧ (loadIn .cancelling).phase = .cancelling
    ∧ (draining .opened block).field.grid = some ⟨8, 8⟩ ∧ (loadIn .opened).phase ≠ .cancelling
    ∧ (block.row < 8 ∧ block.firstCol + block.count ≤ 8) ∧ ¬ (7 < 8 ∧ 8 + 1 ≤ 8) ∧ ¬ (8 < 8 ∧ 7 + 1 ≤ 8)
    ∧ (draining .opened block).CellsSound ∧ block.values.length = block.count
    ∧ (queued 1 .standby none).ingest.queue = .block block :: []
    ∧ (queued 1 .standby none).ingest.inFlight = none ∧ (queued 1 .standby none).output.mode ≠ .dormant
    ∧ ({ (loading .closing).ingest with queue := [.close] } : Ingest).queue = .close :: [] := by
  refine ⟨?_, ?_, ?_, ?_, ?_, ?_, ?_, ?_, sound_draining, ?_, ?_, ?_, ?_, ?_⟩ <;> decide +kernel

theorem witness_CancelAndIngestReset :
    reset.ingest.load = none ∧ (draining .cancelling block).ingest.load = some (loadIn .cancelling)
    ∧ ((loading .closing).ingest.load = some (loadIn .closing) ∧ (loading .closing).ingest.inFlight = none)
    ∧ ((draining .opened block).ingest.load = some (loadIn .opened)
        ∧ (draining .opened block).ingest.inFlight ≠ none) := by decide +kernel

theorem witness_FeedSettingsTakeEffect :
    reset.resetLine = false ∧ (withFeed fun f => { f with state := .degraded }).feed.state = .degraded := by
  decide +kernel

theorem witness_ErroredRecordsCounted :
    reset.feed.window ≠ .continuous ∧ (withFeed fun f => { f with window := .continuous }).feed.window = .continuous
    ∧ (15 ≤ 15 ∧ reset.feed.targetM ≤ 15) ∧ 0 < 1 ∧ 0 < 491520 ∧ 491520 < 491521 := by decide +kernel

/-! ### Coastlines, the Area Map and the window cut -/

def coastIn (state : CoastState) (marker : Option Nat) (count : Nat) : State :=
  { onAir with coast := { state := state, vertices := List.replicate count ⟨1, 1⟩,
                          polylines := [{ first := 0, count := count, kind := .coast, closed := false }],
                          marker := marker } }

theorem witness_CoastBeginStartsLoad : onAir.resetLine = false := rfl

theorem witness_CoastEndValidatesStore :
    onAir.coast.state ≠ .loading ∧ (coastIn .loading (some 0) 2).coast.state = .loading := by decide +kernel

/-- 8192 vertices are the most; 1024 are the most of one polyline. -/
theorem witness_CoastLinePartsAppend :
    2 < 3 ∧ (List.replicate 1 (⟨0, 0⟩ : Vertex)).length < 2 ∧ 250 < (List.replicate 251 (⟨0, 0⟩ : Vertex)).length
    ∧ lineKindOfCode 2 = some .areaBoundary ∧ 2 ≤ (List.replicate 250 (⟨0, 0⟩ : Vertex)).length
    ∧ reset.coast.state ≠ .loading ∧ (coastIn .loading none 7943).coast.state = .loading
    ∧ 8192 < (coastIn .loading none 7943).coast.vertices.length + 250
    ∧ ((coastIn .loading none 7942).coast.vertices.length + 250 ≤ 8192
        ∧ (coastIn .loading none 7942).coast.polylines.length < 512)
    ∧ (coastIn .loading none 2).coast.marker = none ∧ (coastIn .loading (some 0) 2).coast.marker = some 0
    ∧ ((coastIn .loading (some 0) 775).coast.polylines[0]?.map fun p => p.count) = some 775 ∧ 1024 < 775 + 250
    ∧ ((coastIn .loading (some 0) 774).coast.polylines[0]?.map fun p => p.count) = some 774 ∧ 774 + 250 ≤ 1024 := by
  decide +kernel

def mapped : State := { gridded with areaMap := some { columns := 8, rows := 8, cells := [(0, ⟨3, false⟩)] } }

theorem witness_AreaMapIsWritten :
    reset.field.grid = none ∧ mapped.field.grid = some ⟨8, 8⟩ ∧ 9 ≠ 8 ∧ 0 < 1 ∧ 96 < 97
    ∧ ([] : List MapEntry).length ≠ 1 ∧ [(⟨31, true⟩ : MapEntry)].length = 1 ∧ gridded.areaMap = none
    ∧ mapped.areaMap = some { columns := 8, rows := 8, cells := [(0, ⟨3, false⟩)] }
    ∧ (8 ≤ 8 ∧ 8 < 8 + 1) ∧ (7 < 8 ∧ 7 + 1 ≤ 8) ∧ storeWf seaCell [(0, ⟨3, false⟩)] := by decide +kernel

def cutting (x : Context) : Context := { x with coast := ⟨.cutting, [], 0⟩, prep := some .preparing }
def cutState : State :=
  { coastIn .valid none 2 with
    ctl := { onAir.ctl with live := some (cutting context), next := some (cutting cued),
                            stack := [none, some (cutting context)] } }

theorem witness_CutFillsCutList :
    onAir.ctl.at .live = some context ∧ context.coast.cut ≠ .cutting
    ∧ cutState.ctl.live = some (cutting context) ∧ (cutting context).coast.cut = .cutting
    ∧ cutState.ctl.stack[1]? = some (some (cutting context)) ∧ cutState.ctl.next = some (cutting cued)
    ∧ (cutting cued).prep = some .preparing
    ∧ (allPieces { (coastIn .valid none 2).coast with vertices := [⟨-5, 0⟩, ⟨200, 90⟩] } ⟨0, 0, 8, 8⟩).length = 1
    ∧ (let inside (x : Int) : Bool := decide (0 ≤ x)
       (inside 0 = true ∧ inside (-1) = false) ∧ inside (-1) ≠ inside 0) := by
  decide +kernel

/-- R46, R59: the closing segment of a triangle is its last piece; a closed polyline of two vertices has none. -/
theorem test_closing_segment :
    ((allPieces { state := .valid, vertices := [⟨1, 1⟩, ⟨9, 1⟩, ⟨5, 7⟩, ⟨2, 2⟩, ⟨3, 3⟩], marker := none
                  polylines := [⟨0, 3, .island, true⟩, ⟨3, 2, .coast, true⟩] } ⟨0, 0, 8, 8⟩).map
      fun p => (p.polyline, p.start, p.finish))
      = [(0, ⟨1, 1⟩, ⟨9, 1⟩), (0, ⟨9, 1⟩, ⟨5, 7⟩), (0, ⟨5, 7⟩, ⟨1, 1⟩), (1, ⟨2, 2⟩, ⟨3, 3⟩)] := by decide +kernel

/-! ### Evaluation -/

theorem sound_bands : BandSettings.initial.Sound := ⟨by decide, by decide, by decide, by decide, by decide⟩

theorem witness_SpeedBandAndSector :
    BandSettings.initial.Sound ∧ (⟨1500, -1500⟩ : Wind).u.natAbs ≤ 1500 ∧ (⟨1500, -1500⟩ : Wind).v.natAbs = 1500
    ∧ rawForceBand BandSettings.initial ⟨9, 0⟩ = 0 ∧ rawForceBand BandSettings.initial ⟨640, 0⟩ = 12 :=
  ⟨sound_bands, by decide, by decide, by decide, by decide⟩

theorem witness_BlendAndShownBand : 0 ≤ 255 ∧ 255 ≤ 255 := by decide

/-- Cells of land and of sea, with a value in both endpoints, in one and in none, at both sides of weight 128. -/
def inputs (land : Bool) (a b : Option SlotRef) (weight : Nat) : EvalInputs :=
  { slotA := a, slotB := b, weight := weight, bands := BandSettings.initial, glyphs := []
    areaMap := some { columns := 8, rows := 8, cells := if land then [(0, ⟨0, true⟩)] else [] } }

theorem witness_CellResultByEndpoints :
    (evaluateCell onAir.field (inputs true (some refA) none 0) true 0 0).land = true
    ∧ (evaluateCell onAir.field (inputs false (some refA) (some refB) 255) true 0 0).land = false
    ∧ (entryOf onAir.field (some refA) 0 0).wind = some ⟨3, 4⟩ ∧ (entryOf onAir.field none 0 0).wind = none
    ∧ (entryOf onAir.field (some refA) 0 0).tide = some 7 ∧ (entryOf onAir.field (some refB) 0 0).tide = some 7
    ∧ (entryOf onAir.field none 0 0).tide = none ∧ (entryOf onAir.field (some refB) 1 0).wind = none ∧ (entryOf onAir.field (some refB) 0 0).wind = some ⟨3, 4⟩
    ∧ (evaluateCell onAir.field (inputs false none (some refB) 127) true 0 0).wind = none
    ∧ (evaluateCell onAir.field (inputs false none (some refB) 128) true 0 0).wind = some ⟨3, 4⟩ := by decide +kernel

/-- An area of two cells, one with wind, on a grid of 96 columns at most, warned by the list of slot b alone. -/
def summed : FieldStore :=
  { onAir.field with slots := onAir.field.slots.set 1 { stepOf .ready 8 1 with warnings := [31] } }
def areaInputs : EvalInputs :=
  { inputs false (some refA) (some refB) 0 with
    areaMap := some { columns := 8, rows := 8, cells := [(0, ⟨31, false⟩), (1, ⟨31, false⟩), (2, ⟨31, true⟩)] } }

theorem witness_areaSummary :
    1 ≤ 31 ∧ (⟨8, 8⟩ : Grid).columns ≤ 96 ∧ (∀ m, areaInputs.areaMap = some m → storeWf seaCell m.cells)
    ∧ areaSummary summed areaInputs (some ⟨8, 8⟩) 31 = { maxBand := some 0, windCells := 1, warned := true }
    ∧ areaSummary summed areaInputs (some ⟨8, 8⟩) 30 = { maxBand := none, windCells := 0, warned := false } := by
  refine ⟨by decide, by decide, fun m h => by cases h; decide, ?_⟩
  decide +kernel

theorem witness_BandsWriteStores :
    ¬ (∀ l, ({ noBands with force := some [1] } : BandFields).force = some l → l.length = 12)
    ∧ (∀ l, noBands.force = some l → l.length = 12)
    ∧ (∀ m, ({ noBands with mode := some 1 } : BandFields).mode = some m → m ≤ 1)
    ∧ BandSettings.initial.force.length = 12 ∧ BandSettings.initial.force.Pairwise (· < ·)
    ∧ BandSettings.initial.tide.length = 7 ∧ BandSettings.initial.tide.Pairwise (· < ·) := by
  refine ⟨fun h => absurd (h _ rfl) (by decide), fun l h => absent rfl h, fun m h => by cases h; decide, ?_⟩
  decide

/-! ### Pages, cues and the show context -/

theorem witness_PagesAreWritten :
    31 < 32 ∧ 31 < 32 ∧ 2 < 3 ∧ endActionOfCode 2 = some .advance ∧ (0x80000001#32).getLsbD 31 = true := by decide

theorem witness_WindowClampedToGrid :
    4 ≤ page.width ∧ 8 ≤ 8 ∧ page.originCol + page.width ≤ 8 ∧ page.originRow + page.height ≤ 8 := by decide

theorem witness_ContextBuilt : onAir.FieldSound ∧ onAir.field.IsFirstReady 5 10 refA ∧ onAir.field.IsFirstReady 6 10 refB :=
  ⟨sound_field, firstReady_of _ _ _ _ (by decide +kernel), firstReady_of _ _ _ _ (by decide +kernel)⟩

theorem witness_PinsFollowTakesAndReleases :
    ∀ j, ([refA, refB].filter fun r => r.slot = j).length
      ≤ (onAir.field.slot j).pins + ([refB].filter fun r => r.slot = j).length := by decide +kernel

def cuedTo (n : Nat) (x : Option Context) : State :=
  { onAir with ctl := { onAir.ctl with next := x, queue := List.replicate n { page := 0, start := none } } }

theorem witness_CuesBuildNext :
    (∀ i : PageId, i.val = 32 → onAir.ctl.page i = none) ∧ (∀ i : PageId, i.val = 31 → onAir.ctl.page i = none)
    ∧ onAir.ctl.page 0 = some page ∧ (∃ h, some 241 = some h ∧ 240 < h) ∧ (∀ h, some 240 = some h → h ≤ 240)
    ∧ 8 ≤ (cuedTo 8 (some cued)).ctl.queue.length ∧ (cuedTo 7 (some cued)).ctl.queue.length < 8
    ∧ (cuedTo 7 (some cued)).ctl.next = some cued ∧ (cuedTo 0 none).ctl.next = none
    ∧ (cuedTo 0 none).ctl.queue = [] ∧ (cuedTo 1 none).ctl.queue = { page := 0, start := none } :: [] := by
  refine ⟨?_, ?_, by decide +kernel, ⟨241, rfl, by decide⟩, fun h k => by cases k; decide, ?_⟩ <;> decide +kernel

theorem witness_CueWithdrawReleasesNext : reset.ctl.next = none ∧ onAir.ctl.next = some cued := ⟨rfl, rfl⟩

theorem witness_CueClearEmptiesQueue : (cuedTo 8 (some cued)).resetLine = false := rfl

theorem witness_HoldResumeDeskReset : onAir.resetLine = false := rfl

def inserted (n : Nat) : State := { onAir with ctl := { onAir.ctl with stack := List.replicate n none } }

theorem witness_TakeAndClear :
    reset.ctl.next = none ∧ onAir.ctl.next = some cued ∧ onAir.ctl.stack = [] ∧ (inserted 1).ctl.stack ≠ []
    ∧ (inserted 1).ctl.next = some cued := by decide +kernel

theorem witness_InsertPushesAndPops :
    2 ≤ (inserted 2).ctl.stack.length ∧ (inserted 1).ctl.stack.length < 2 ∧ onAir.ctl.stack = []
    ∧ (∀ i : PageId, i.val = 31 → (inserted 1).ctl.page i = none) ∧ (inserted 1).ctl.page 0 = some page
    ∧ (inserted 2).ctl.stack = [none] ++ [none] := by decide +kernel

theorem witness_JumpResolvesLive :
    240 < 241 ∧ 240 ≤ 240 ∧ reset.ctl.live = none ∧ onAir.ctl.live = some context ∧ onAir.FieldSound :=
  ⟨by decide, by decide, rfl, rfl, sound_field⟩

/-! ### Frame timing and animation -/

/-- LIVE with these steps and phase on a page of this range and end action, with NEXT READY. -/
def moving (a b : Option SlotRef) (phase : Nat) (ended : Bool) (first last : Nat) (e : EndAction)
    (state : SlotState := .ready) (n : Option Context := some cued) : State :=
  aired (some { context with stepA := a, stepB := b, phase := phase, ended := ended
                             copy := { page with first := first, last := last, endAction := e } }) n state

theorem witness_LiveAdvances_starved :
    (reset.ctl.live = none ∧ ({ onAir.ctl with hold := true } : ShowController).hold = true)
    ∧ ((moving none none 0 false 20 30 .loop).FieldSound
        ∧ ∀ r, ¬ (moving none none 0 false 20 30 .loop).field.IsFirstReady 20 30 r)
    ∧ (moving none none 0 false 0 10 .loop).FieldSound
        ∧ (moving none none 0 false 0 10 .loop).field.IsFirstReady 0 10 refA
        ∧ ∀ r, some refB = some r ↔ (moving none none 0 false 0 10 .loop).field.IsFirstReady (5 + 1) 10 r :=
  ⟨by decide +kernel, ⟨fieldSound_of _ (by decide +kernel), noReady_of _ _ _ (by decide +kernel)⟩,
    fieldSound_of _ (by decide +kernel), firstReady_of _ _ _ _ (by decide +kernel),
    firstReady_iff _ _ _ _ (firstReady_of _ _ _ _ (by decide +kernel)) (by decide +kernel)⟩

/-- An ended LIVE: an hour beyond its step a; none, with NEXT READY under ADVANCE; none under HOLD_LAST with step a's
hour still its own; and with that hour published again in slot 1. -/
def republished : State :=
  let s := moving (some refA) none 0 true 0 5 .holdLast .retiring
  { s with field := { s.field with slots := s.field.slots.set 1 (stepOf .ready 5 0) } }

theorem witness_LiveAdvances_ended :
    ((moving (some refA) none 0 true 0 10 .holdLast).FieldSound
        ∧ (moving (some refA) none 0 true 0 10 .holdLast).field.IsFirstReady (5 + 1) 10 refB)
    ∧ ((moving (some refB) none 0 true 0 10 .advance).FieldSound
        ∧ (∀ r, ¬ (moving (some refB) none 0 true 0 10 .advance).field.IsFirstReady (8 + 1) 10 r)
        ∧ (moving (some refB) none 0 true 0 10 .advance).ctl.next = some cued ∧ cued.prep = some .ready)
    ∧ (∀ r, (moving (some refB) none 0 true 0 10 .holdLast).field.IsFirstReady 8 8 r → r.slot = refB.slot)
    ∧ (republished.FieldSound ∧ (∀ r, ¬ republished.field.IsFirstReady (5 + 1) 5 r)
        ∧ republished.field.IsFirstReady 5 5 ⟨1, 5, 1⟩ ∧ (1 : SlotId) ≠ refA.slot) := by
  refine ⟨⟨fieldSound_of _ (by decide +kernel), firstReady_of _ _ _ _ (by decide +kernel)⟩,
    ⟨fieldSound_of _ (by decide +kernel), noReady_of _ _ _ (by decide +kernel), rfl, rfl⟩, fun r h => ?_,
    fieldSound_of _ (by decide +kernel), noReady_of _ _ _ (by decide +kernel),
    firstReady_of _ _ _ _ (by decide +kernel), by decide⟩
  have e : r.hour = 8 := Nat.le_antisymm h.range.2 h.range.1
  have u : ∀ j, ((moving (some refB) none 0 true 0 10 .holdLast).field.slot j).state = .ready →
      ((moving (some refB) none 0 true 0 10 .holdLast).field.slot j).hour = some 8 → j = refB.slot := by decide +kernel
  exact u _ h.ready (e ▸ h.names.1)

/-- A running LIVE: within a step and at its last phase; at the boundary with an hour beyond, with none under each
end action, and with no hour left at all under LOOP. -/
theorem witness_LiveAdvances_running :
    (2 + 1 < page.framesPerStep ∧ page.framesPerStep ≤ 3 + 1)
    ∧ ((moving (some refA) (some refB) 3 false 0 10 .loop).FieldSound
        ∧ (moving (some refA) (some refB) 3 false 0 10 .loop).field.IsFirstReady (5 + 1) 10 refB
        ∧ ∀ r, none = some r ↔ (moving (some refA) (some refB) 3 false 0 10 .loop).field.IsFirstReady (8 + 1) 10 r)
    ∧ (∀ e ∈ [EndAction.holdLast, .loop, .advance], (moving (some refB) none 3 false 0 10 e).FieldSound
        ∧ ∀ r, ¬ (moving (some refB) none 3 false 0 10 e).field.IsFirstReady (8 + 1) 10 r)
    ∧ ((moving (some refB) none 3 false 0 10 .advance (n := none)).ctl.next = none
        ∧ (moving (some refB) none 3 false 0 10 .advance).ctl.next = some cued)
    ∧ ((moving (some refB) none 3 false 0 10 .loop).field.IsFirstReady 0 10 refA)
    ∧ (moving (some refA) none 3 false 5 5 .loop .retiring).FieldSound
        ∧ ∀ r, ¬ (moving (some refA) none 3 false 5 5 .loop .retiring).field.IsFirstReady 5 5 r := by
  refine ⟨by decide, ⟨fieldSound_of _ (by decide +kernel), firstReady_of _ _ _ _ (by decide +kernel),
      noReady_iff _ _ _ (noReady_of _ _ _ (by decide +kernel))⟩, fun e he => ?_, ⟨rfl, rfl⟩,
    firstReady_of _ _ _ _ (by decide +kernel), fieldSound_of _ (by decide +kernel), noReady_of _ _ _ (by decide +kernel)⟩
  fin_cases he <;> exact ⟨fieldSound_of _ (by decide +kernel), noReady_of _ _ _ (by decide +kernel)⟩

/-- Pulses at the edges of the tolerance of 200 about 40000, of the half period, and of an eighth good interval. -/
theorem witness_PulseJudgedByLockState :
    (withTiming id .dormant).output.mode = .dormant ∧ (withTiming id).timing.lock = .freeRun
    ∧ (∀ d ∈ [39800, 40200], nominalPeriod .r25 ≤ d + tolerance .r25 ∧ d ≤ nominalPeriod .r25 + tolerance .r25)
    ∧ (∀ d ∈ [39799, 40201], ¬ (nominalPeriod .r25 ≤ d + tolerance .r25 ∧ d ≤ nominalPeriod .r25 + tolerance .r25))
    ∧ 19999 < halfPeriod .r25 ∧ halfPeriod .r25 ≤ 20000
    ∧ (let s := withTiming fun x => { x with lock := .acquiring, lastPulse := some 960000, goodIntervals := 7 }
       s.timing.lock = .acquiring ∧ s.timing.lastPulse = some 960000 ∧ s.timing.goodIntervals = 7
         ∧ (s.at 1000000).now - 960000 = 40000)
    ∧ (withTiming fun x => { x with lastFrameStart := some 980001 }).timing.lastFrameStart = some 980001
    ∧ (withTiming fun x => { x with lock := .locked, lastPulse := some 960000 }).timing.lock = .locked
    ∧ (let s := withTiming fun x => { x with lock := .holdover, lastFrameStart := some 960000, started := true }
       s.timing.lock = .holdover ∧ (s.at 1000000).now ≤ 960000 + 40000 ∧ 960000 + 40000 < (s.at 1000001).now) := by
  decide +kernel

theorem witness_TimebaseEvents :
    (withTiming fun x => { x with nextDue := none }).timing.nextDue = none
    ∧ ¬ ((withTiming fun x => { x with lock := .holdover, holdover := 248 }).timing.lock = .holdover ∧ 248 = 249)
    ∧ (withTiming id).timing.nextDue = some 40000 ∧ (withTiming id).timing.lock = .freeRun
    ∧ (∀ n ∈ [248, 249], (withTiming fun x => { x with lock := .holdover, holdover := n }).timing.holdover = n)
    ∧ (withTiming id).timing.lock ≠ .acquiring ∧ (withTiming id).timing.lock ≠ .locked
    ∧ (∀ k ∈ [LockState.acquiring, .locked],
        (withTiming fun x => { x with lock := k, lastPulse := some 9 }).timing.lock = k
        ∧ (withTiming fun x => { x with lock := k, lastPulse := some 9 }).timing.lastPulse = some 9) := by decide +kernel

theorem witness_ReferenceSetChangesRate :
    (24 ≠ 25 ∧ 24 ≠ 30 ∧ 24 ≠ 50 ∧ 24 ≠ 60) ∧ rateOfCode 60 = some .r60
    ∧ (withTiming id .dormant).output.mode = .dormant ∧ (withTiming id).output.mode ≠ .dormant
    ∧ (let s := withTiming fun x => { x with lastFrameStart := some 983333, started := true }
       (s.at 1000000).now ≤ 983333 + nominalPeriod .r60 ∧ 983333 + nominalPeriod .r60 < (s.at 1000001).now) := by
  decide +kernel

def emptyComposition (frame level : Nat) : Composition :=
  { snapshot := { frame := frame, chart := none }, bands := BandSettings.initial, glyphs := [], areaMap := none,
    grid := none, level := level, feed := .good }
def governed (c : Option Composition) (lock : LockState) (g : Governor) : State :=
  { withTiming fun x => { x with lock := lock, lastPulse := some 960000 } with
    composer := { Composer.initial with composition := c, governor := g } }

theorem witness_GovernorJudgesFrames :
    (lateCount [.late, .late] ≤ 2 ∧ lateCount ([.late, .late] ++ [.late]) = 3 ∧ 248 < 249)
    ∧ lateCount ((.late :: .late :: List.replicate 48 .onTime).tail ++ [FrameOutcome.late]) = 2
    ∧ (let g : Governor := { level := 2, window := [.late, .late], run := 249 }
       let s := governed (some (emptyComposition 1 0)) .freeRun g
       s.Bounded ∧ s.output.mode = .onAir ∧ s.composer.composition ≠ none
         ∧ 3 ≤ lateCount (pushOutcome g.window .late) ∧ s.timing.nextDue = some 40000 ∧ s.timing.lock ≠ .locked)
    ∧ (let s := governed none .locked { level := 2, window := [], run := 249 }
       s.Bounded ∧ s.composer.composition = none ∧ s.composer.governor.run = 249 ∧ s.timing.lock = .locked
         ∧ s.timing.lastPulse = some 960000 ∧ halfPeriod s.timing.rate ≤ (s.at 1000000).now - 960000) := by
  refine ⟨by decide, by decide, ⟨⟨?_, ?_, ?_, ?_, ?_, ?_, ?_⟩, ?_⟩, ⟨?_, ?_, ?_, ?_, ?_, ?_, ?_⟩, ?_⟩
  case refine_4 => intro p; cases p <;> decide
  case refine_12 => intro p; cases p <;> decide
  all_goals decide +kernel

/-! ### Composition, output and modes -/

theorem witness_CompositionBeginsAndCompletes :
    reset.composer.composition = none ∧ (governed (some (emptyComposition 1 0)) .locked Governor.initial).composer.composition
        = some (emptyComposition 1 0)
    ∧ (let s : State := { reset with composer := { Composer.initial with
          composition := some (emptyComposition 1 0), mailbox := some ⟨2, none⟩ } }
       s.resetLine = false ∧ s.composer.composition = some (emptyComposition 1 0)
         ∧ s.composer.mailbox = some ⟨2, none⟩)
    ∧ Composer.initial.mailbox = none := by decide +kernel

def chart : SnapshotChart :=
  { page := 0, copy := { page with stride := 3 }, window := ⟨0, 0, 8, 8⟩, slotA := some refA, slotB := none, weight := 0,
    ended := false, starved := false, coastPending := true, pieces := [], overflow := 0 }

/-- Page stride 3 at detail level 2 gives the wind stride 6: three cells a row, two of them with wind. -/
theorem witness_CompositionCoversWindow :
    let x := { emptyComposition 1 2 with snapshot := { frame := 1, chart := some chart }, grid := some ⟨8, 8⟩ }
    x.snapshot.chart = some chart ∧ ((x.cells onAir.field).map fun r => r.col) = [0, 3, 6, 0, 3, 6, 0, 3, 6]
    ∧ ((x.cells onAir.field).map fun r => r.windEvaluated)
        = [true, false, true, false, false, false, true, false, true]
    ∧ (emptyComposition 1 2).snapshot.chart = none := by decide +kernel

theorem witness_SafeEnteredAndLeft : reset.resetLine = false ∧ 1 < 2 ∧ (∃ c, some 2 = some c ∧ 1 < c) ∧ 1 ≤ 1
    ∧ ∀ c, some 1 = some c → c ≤ 1 :=
  ⟨rfl, by decide, ⟨2, rfl, by decide⟩, by decide, fun c h => by cases h; decide⟩

theorem witness_LineUpAndOutputMode :
    1 < 2 ∧ (withTiming id).output.mode = .onAir ∧ 3 < 4 ∧ modeOfCode 3 = some .dormant
    ∧ modeOfCode 2 = some (withTiming id).output.mode ∧ modeOfCode 1 ≠ some (withTiming id .dormant).output.mode
    ∧ (withTiming id .dormant).output.mode = .dormant ∧ (withTiming id .dormant).output.lineup ≠ true := by decide +kernel

theorem witness_PlayoutResetRestores :
    (withTiming id .dormant).output.mode = .dormant ∧ (withTiming id).timing.lock = .freeRun
    ∧ (let s := withTiming fun x => { x with lock := .locked, lastFrameStart := some 960000, started := true }
       s.timing.lock = .locked ∧ (s.at 1000000).now ≤ 960000 + nominalPeriod s.timing.rate
         ∧ 960000 + nominalPeriod s.timing.rate < (s.at 1000001).now) := by decide +kernel

theorem witness_FrameStartDrivesOutput :
    (withTiming id).output.mode = .onAir ∧ reset.output.mode = .standby ∧ onAir.ShowSound
    ∧ onAir.snapshot.chart.isSome = true :=
  ⟨rfl, rfl, sound_show.1, rfl⟩

/-! ### One command each, on a field or two of the state it leaves -/

/-- A test on the state a command leaves. -/
def leaves (c : Instr) (s : State) (test : State → Bool) : Bool :=
  match exec c s with
  | .next t => test t
  | .fault _ => false
  | .refused _ => false

/-- The outcome of the last reply on a port. -/
def outcomeAt (p : Port) (t : State) : Option OutcomeCode := (t.ports.get p).lastReply.map fun r => r.outcome

/-- R2: 8 by 64 is allowed, 7 columns are not. -/
theorem test_grid_limits :
    leaves (.gridDefine 8 64) reset (fun t => t.field.grid == some ⟨8, 64⟩) = true
    ∧ leaves (.gridDefine 7 64) reset (fun t => outcomeAt .ip t == some .badGrid) = true := by decide +kernel

/-- R7, R24: the lowest-numbered FREE slot. -/
theorem test_step_open_slot :
    leaves (.stepOpen 240 2 []) (aired none none) (fun t => (t.field.slot 2).state == .loading) = true := by decide +kernel

/-- R48: 1536 is set to 1535 and counted. -/
theorem test_coast_line_clamps :
    leaves (.coastLineNew 0 false [⟨1536, 0⟩, ⟨0, 0⟩]) (coastIn .loading none 2)
      (fun t => (t.coast.vertices.getLast? == some ⟨0, 0⟩) && (t.coast.vertices[2]? == some ⟨1535, 0⟩)
        && (outcomeAt .dp t == some .clamped)) = true := by decide +kernel

/-- R107: an insert up refuses TAKE. -/
theorem test_take_under_insert :
    leaves .take (inserted 1) (fun t => outcomeAt .pp t == some .insertActive) = true := by decide +kernel

/-- R124: the frame count wraps from 4,294,967,295 to 0. -/
theorem test_frame_count_wraps :
    leaves .internalFrameStart (withTiming fun x => { x with frameCount := 4294967295 })
      (fun t => (t.timing.frameCount == 0) && (t.timing.nextDue == some 80000)) = true := by decide +kernel

/-- R167: a request of the Playout Port on the Desk Port. -/
theorem test_wrong_port :
    leaves (.linkFrameReceived .dp (frameOf 0x30 []) 5) reset
      (fun t => (outcomeAt .dp t == some .wrongPort) && (t.ports.dp.serving.map fun r => r.kind) == some 0xB0#8)
      = true := by decide +kernel

/-- R165: after a framing error the two length octets are hunted through, and 0xC3 among them starts a frame. -/
theorem test_framing_error_hunts_again :
    ([0x04C3, 0xC300, 0x0500].map fun n => leaves (.framingError .dp n) (withPort .dp fun x =>
        { x with receiver := .receiving })
      fun t => (t.ports.dp.receiver == .receiving) && (t.ports.dp.linkErrors == 1)) = [true, true, false] := by
  decide +kernel

/-- R155: in DORMANT a LINEUP that changes nothing keeps the fill, and one that changes the flag chooses it. -/
theorem test_lineup_in_dormant :
    let s : State := { withTiming id .dormant with output := { reset.output with mode := .dormant, fill := .lineUpCard } }
    leaves (.lineup 0) s (fun t => t.output.fill == .lineUpCard) = true
    ∧ leaves (.playoutReset 0) s (fun t => t.output.fill == .lineUpCard) = true
    ∧ leaves (.playoutReset 0) { s with output := { s.output with lineup := true } }
        (fun t => t.output.fill == .transparent) = true := by decide +kernel

/-- R148, R161: an empty-page record is reported by its frame number, and differs from an empty slot. -/
theorem test_reads_of_an_empty_page :
    let shows (r : Option FrameRecord) : State := { reset with output := { reset.output with shown := r } }
    leaves (.cellRead .dp 0 0 1) (shows (some ⟨9, none⟩)) (fun t => (t.ports.dp.lastReply.map fun r => r.fields)
        == some [.octet 1, .long 9, .octet 0, .octet 1, .octet 0]) = true
    ∧ leaves (.cellRead .dp 0 0 1) (shows none) (fun t => (t.ports.dp.lastReply.map fun r => r.fields)
        == some [.octet 0, .octet 0, .octet 1, .octet 0]) = true
    ∧ leaves (.areaRead .ip) (shows (some ⟨9, none⟩)) (fun t => (t.ports.ip.lastReply.map fun r => r.fields.take 4)
        == some [.octet 1, .long 9, .octet 0, .octet 31]) = true := by decide +kernel

/-- R157, R158: the SAFE line brings the STILL card, the banner alone while the store is EMPTY. -/
theorem test_safe_line :
    leaves (.safeLineChange true) reset (fun t => t.output.fill == .stillCard none) = true
    ∧ leaves .internalFrameStart { reset with safeLine := true } (fun t => t.output.fill == .stillCard none) = true := by
  decide +kernel

/-- R1, R164, R173: the columns and the rows are absent each under an octet of its own while the grid is UNDEFINED. -/
theorem test_timeline_grid_fields :
    (timelineFields reset).take 4 = [.octet 0, .octet 0, .octet 0, .octet 0]
    ∧ (timelineFields { reset with field := { reset.field with grid := some ⟨40, 30⟩ } }).take 6
        = [.octet 1, .octet 1, .num 40, .octet 1, .num 30, .octet 0] := by decide +kernel

/-- R169, R121: the header after power-on, by hand from the table: LIVE EMPTY, STALE, FREE_RUN, STANDBY; and in DORMANT
with the SAFE line asserted. -/
theorem test_headers :
    headerFields (statusHeader reset .ip) = [.octet 0, .octet 0, .octet 0, .octet 0, .octet 0, .num 0, .octet 2,
      .octet 0, .octet 0, .octet 0]
    ∧ headerFields (statusHeader { withTiming id .dormant with safeLine := true } .pp) = [.octet 0, .octet 0, .octet 0,
      .octet 0, .octet 0, .num 0, .octet 2, .octet 4, .octet 3, .octet 1] := by decide +kernel
end Sys2Proof.Tests
end

section
/-! PROOFS. The Field Store seen with what depends on it: the slots and the Timeline, the open load, and the references
held as a multiset. Each operation is a chain of a few kinds of change of that view. -/

namespace Sys2Proof.Machine

/-- What the invariant of the Field Store speaks of (R4, R10, R15, R16). -/
structure FieldView where
  field : FieldStore
  load : Option OpenLoad
  refs : Multiset SlotRef

def State.view (s : State) : FieldView := { field := s.field, load := s.ingest.load, refs := ↑s.references }

/-- The references of a view to one slot. -/
def FieldView.count (v : FieldView) (i : SlotId) : Nat := v.refs.countP fun r => r.slot = i

/-- `State.FieldSound`, stated of a view. -/
structure FieldView.Sound (v : FieldView) : Prop where
  ready : ∀ i, (v.field.slot i).state = .ready ↔ i ∈ v.field.timeline
  ascending : v.field.timeline.Pairwise fun i j => v.field.hourOf i < v.field.hourOf j
  loading : ∀ i, (v.field.slot i).state = .loading ↔ ∃ l, v.load = some l ∧ l.slot = i
  free : ∀ i, (v.field.slot i).state = .free → v.field.slot i = (v.field.slot i).freed
  hour : ∀ i, (v.field.slot i).state ≠ .free →
    (∃ h, (v.field.slot i).hour = some h ∧ h ≤ 240) ∧ (v.field.slot i).fieldSet.isSome = true
  load : ∀ l, v.load = some l →
    (v.field.slot l.slot).hour = some l.hour ∧ (v.field.slot l.slot).fieldSet = some l.fieldSet
  pins : ∀ i, (v.field.slot i).pins = v.count i
  retiring : ∀ i, (v.field.slot i).state = .retiring → 1 ≤ (v.field.slot i).pins
  refs : ∀ r ∈ v.refs,
    ((v.field.slot r.slot).state = .ready ∨ (v.field.slot r.slot).state = .retiring)
      ∧ (v.field.slot r.slot).hour = some r.hour ∧ (v.field.slot r.slot).generation = r.generation

theorem State.count_view (s : State) (i : SlotId) : s.view.count i = s.referencesTo i := by
  simp [FieldView.count, State.view, State.referencesTo, List.countP_eq_length_filter]

theorem State.fieldSound_iff_view (s : State) : s.FieldSound ↔ s.view.Sound := by
  constructor
  · rintro ⟨h1, h2, h3, h4, h5, h6, h7, h8, h9⟩
    exact ⟨h1, h2, h3, h4, h5, h6, fun i => (h7 i).trans (s.count_view i).symm, h8, h9⟩
  · rintro ⟨h1, h2, h3, h4, h5, h6, h7, h8, h9⟩
    exact ⟨h1, h2, h3, h4, h5, h6, fun i => (h7 i).trans (s.count_view i), h8, h9⟩

/-- A reference that a take may add: one held already, or one to a slot of the Timeline as it stands (R14, R16). -/
def FieldView.Offers (v : FieldView) (r : SlotRef) : Prop :=
  r ∈ v.refs ∨ ∃ i ∈ v.field.timeline, r = v.field.refTo i

/-- Takes and releases: the only changes that the show and the Composer make (R17, R18). -/
inductive FieldView.Repin : FieldView → FieldView → Prop
  | take (v : FieldView) (added : List SlotRef) (h : ∀ r ∈ added, v.Offers r) :
      Repin v { v with field := v.field.takeAll added, refs := ↑added + v.refs }
  | release (v : FieldView) (removed : List SlotRef) (kept : Multiset SlotRef) (h : v.refs = ↑removed + kept) :
      Repin v { v with field := v.field.releaseAll removed, refs := kept }

/-- Any number of takes and releases. -/
abbrev FieldView.Repins : FieldView → FieldView → Prop := Relation.ReflTransGen FieldView.Repin

/-- Every change of the view but the definition of a grid, the opening of a load and a restart. -/
inductive FieldView.Change : FieldView → FieldView → Prop
  | repin {v w : FieldView} (h : v.Repin w) : Change v w
  | relabel (v : FieldView) (l l' : OpenLoad) (h : v.load = some l)
      (same : l'.slot = l.slot ∧ l'.hour = l.hour ∧ l'.fieldSet = l.fieldSet) : Change v { v with load := some l' }
  | write (v : FieldView) (l : OpenLoad) (h : v.load = some l) (row col : Nat) (vs : List CellValue)
      (m : Store CellValue × Nat)
      (hm : m = writeValues l.fieldSet row col vs ((v.field.slot l.slot).cells, 0)) :
      Change v { v with
        field := v.field.setSlot l.slot { v.field.slot l.slot with cells := m.1, loaded := m.1.length } }
  | drop (v : FieldView) (l : OpenLoad) (h : v.load = some l) :
      Change v { v with field := v.field.setSlot l.slot (v.field.slot l.slot).freed, load := none }
  | publish (v : FieldView) (l : OpenLoad) (h : v.load = some l) :
      Change v { v with field := v.field.publish l.slot, load := none }
  | leave (v : FieldView) (i : SlotId) (h : i ∈ v.field.timeline) :
      Change v { v with field := v.field.leaveTimeline i }

abbrev FieldView.Evolves : FieldView → FieldView → Prop := Relation.ReflTransGen FieldView.Change

/-- The opening of a load in a FREE slot (R7, R24). -/
structure FieldView.Opens (v w : FieldView) (i : SlotId) (x : Slot) (l : OpenLoad) : Prop where
  free : (v.field.slot i).state = .free
  clear : v.load = none
  slot : l.slot = i ∧ x.hour = some l.hour ∧ x.fieldSet = some l.fieldSet
  opened : x.state = .loading ∧ x.pins = 0 ∧ x.loaded = 0 ∧ x.cells = []
  hour : l.hour ≤ 240
  generation : x.generation = (v.field.slot i).generation
  warnings : ∃ ws, x.warnings = (cleanWarnings ws).1
  eq : w = { v with field := v.field.setSlot i x, load := some l }

/-! ### The invariant along takes and releases -/

theorem countP_coe_eq_refCount (refs : List SlotRef) (i : SlotId) :
    (↑refs : Multiset SlotRef).countP (fun r => r.slot = i) = refCount refs i := by
  simp [refCount, List.countP_eq_length_filter]

theorem FieldView.count_pos {v : FieldView} {r : SlotRef} (h : r ∈ v.refs) : 1 ≤ v.count r.slot :=
  Multiset.countP_pos.2 ⟨r, h, rfl⟩

/-- The reference to a listed slot carries its hour. -/
theorem FieldView.Sound.hour_of_mem {v : FieldView} (hv : v.Sound) {i : SlotId} (h : i ∈ v.field.timeline) :
    (v.field.slot i).hour = some (v.field.hourOf i) := by
  have hr := (hv.ready i).2 h
  obtain ⟨⟨k, hk, -⟩, -⟩ := hv.hour i (by simp [hr])
  simp [FieldStore.hourOf, hk]

/-- What is offered names a published slot and carries its hour and generation (R16). -/
theorem FieldView.Sound.offers {v : FieldView} (hv : v.Sound) {r : SlotRef} (h : v.Offers r) :
    ((v.field.slot r.slot).state = .ready ∨ (v.field.slot r.slot).state = .retiring)
      ∧ (v.field.slot r.slot).hour = some r.hour ∧ (v.field.slot r.slot).generation = r.generation := by
  rcases h with h | ⟨i, hi, rfl⟩
  · exact hv.refs r h
  · exact ⟨.inl ((hv.ready i).2 hi), hv.hour_of_mem hi, rfl⟩

theorem FieldView.Sound.takeAll {v : FieldView} (hv : v.Sound) {added : List SlotRef}
    (h : ∀ r ∈ added, v.Offers r) :
    Sound { v with field := v.field.takeAll added, refs := ↑added + v.refs } where
  ready i := by simpa [FieldStore.slot_takeAll] using hv.ready i
  ascending := by simpa using hv.ascending
  loading i := by simpa [FieldStore.slot_takeAll] using hv.loading i
  free i hi := by
    have hfree : (v.field.slot i).state = .free := by simpa [FieldStore.slot_takeAll] using hi
    have hnone : refCount added i = 0 := by
      by_contra hne
      obtain ⟨r, hr, rfl⟩ : ∃ r ∈ added, r.slot = i := by
        simpa [refCount, ← List.countP_eq_length_filter] using hne
      simpa [hfree] using (hv.offers (h r hr)).1
    simpa [FieldStore.slot_takeAll, hnone] using hv.free i hfree
  hour i hi := by simpa [FieldStore.slot_takeAll] using hv.hour i (by simpa [FieldStore.slot_takeAll] using hi)
  load l hl := by simpa [FieldStore.slot_takeAll] using hv.load l hl
  pins i := by
    have := hv.pins i
    simp only [FieldStore.slot_takeAll, FieldView.count, Multiset.countP_add, countP_coe_eq_refCount] at this ⊢
    omega
  retiring i hi := by
    have := hv.retiring i (by simpa [FieldStore.slot_takeAll] using hi)
    simp only [FieldStore.slot_takeAll]; omega
  refs r hr := by
    have : v.Offers r := (Multiset.mem_add.1 hr).elim (fun hr => h r (by simpa using hr)) .inl
    simpa [FieldStore.slot_takeAll] using hv.offers this

/-- The two outcomes of releasing `n` references to a slot (R18). -/
theorem Slot.released_cases (x : Slot) (n : Nat) :
    (x.state = .retiring ∧ x.pins = n ∧ 0 < n ∧ x.released n = x.freed)
      ∨ (¬ (x.state = .retiring ∧ x.pins = n ∧ 0 < n) ∧ x.released n = { x with pins := x.pins - n }) := by
  unfold Slot.released
  split
  · next h => exact .inl ⟨h.1, h.2.1, h.2.2, rfl⟩
  · next h => exact .inr ⟨h, rfl⟩

theorem FieldView.Sound.releaseAll {v : FieldView} (hv : v.Sound) {removed : List SlotRef} {kept : Multiset SlotRef}
    (h : v.refs = ↑removed + kept) : Sound { v with field := v.field.releaseAll removed, refs := kept } := by
  have hpins (i : SlotId) : (v.field.slot i).pins = refCount removed i + kept.countP fun r => r.slot = i := by
    rw [hv.pins i, FieldView.count, h, Multiset.countP_add, countP_coe_eq_refCount]
  have hslot := v.field.slot_releaseAll removed fun j => by rw [hpins j]; omega
  have hcase (i : SlotId) := (v.field.slot i).released_cases (refCount removed i)
  have hlisted {i : SlotId} (hi : i ∈ v.field.timeline) : (v.field.releaseAll removed).hourOf i = v.field.hourOf i := by
    have := (hv.ready i).2 hi
    rcases hcase i with ⟨hs, -⟩ | ⟨-, he⟩
    · simp [this] at hs
    · simp [FieldStore.hourOf, hslot, he]
  refine ⟨fun i => ?_, ?_, fun i => ?_, fun i hi => ?_, fun i hi => ?_, fun l hl => ?_, fun i => ?_, fun i hi => ?_,
    fun r hr => ?_⟩
  · rw [FieldStore.timeline_releaseAll, ← hv.ready i, hslot]
    rcases hcase i with ⟨hs, -, -, he⟩ | ⟨-, he⟩
    · simp [he, hs]
    · rw [he]
  · rw [FieldStore.timeline_releaseAll]
    exact hv.ascending.imp_of_mem fun ha hb hab => by rw [hlisted ha, hlisted hb]; exact hab
  · rw [← hv.loading i, hslot]
    rcases hcase i with ⟨hs, -, -, he⟩ | ⟨-, he⟩
    · simp [he, hs]
    · rw [he]
  · rw [hslot] at hi ⊢
    rcases hcase i with ⟨-, -, -, he⟩ | ⟨-, he⟩
    · rw [he, Slot.freed_freed]
    · rw [he] at hi ⊢
      have hf := hv.free i hi
      rw [hf]; simp [Slot.freed, Slot.initial]
  · rw [hslot] at hi ⊢
    rcases hcase i with ⟨-, -, -, he⟩ | ⟨-, he⟩
    · simp [he] at hi
    · rw [he] at hi ⊢; exact hv.hour i hi
  · have hs := (hv.loading l.slot).2 ⟨l, hl, rfl⟩
    rcases hcase l.slot with ⟨hr, -⟩ | ⟨-, he⟩
    · simp [hs] at hr
    · simpa [hslot, he] using hv.load l hl
  · have := hpins i
    rw [hslot]
    rcases hcase i with ⟨-, hn, -, he⟩ | ⟨-, he⟩ <;> rw [he] <;> simp only [FieldView.count, Slot.freed_pins] <;> omega
  · rw [hslot] at hi ⊢
    rcases hcase i with ⟨-, -, -, he⟩ | ⟨hn, he⟩
    · simp [he] at hi
    · rw [he] at hi ⊢
      have hs : (v.field.slot i).state = .retiring := hi
      have h1 := hv.retiring i hs
      have h2 := hpins i
      have : ¬ ((v.field.slot i).pins = refCount removed i ∧ 0 < refCount removed i) := fun hc => hn ⟨hs, hc.1, hc.2⟩
      simp only; omega
  · have hk : 1 ≤ kept.countP fun q => q.slot = r.slot := Multiset.countP_pos.2 ⟨r, hr, rfl⟩
    rcases hcase r.slot with ⟨-, hn, -, -⟩ | ⟨-, he⟩
    · have := hpins r.slot; omega
    · simpa [hslot, he] using hv.refs r (by rw [h]; exact Multiset.mem_add.2 (.inr hr))

theorem FieldView.Sound.repin {v w : FieldView} (hv : v.Sound) (h : v.Repin w) : w.Sound := by
  cases h with
  | take added h => exact hv.takeAll h
  | release removed kept h => exact hv.releaseAll h

end Sys2Proof.Machine
end

section
namespace Sys2Proof.Machine

/-! ### The invariant along the other changes -/

theorem FieldView.Sound.not_mem_of_unpublished {v : FieldView} (hv : v.Sound) {i : SlotId}
    (hi : (v.field.slot i).state = .free ∨ (v.field.slot i).state = .loading) {r : SlotRef} (hr : r ∈ v.refs) :
    r.slot ≠ i := by
  rintro rfl
  rcases (hv.refs r hr).1 with h | h <;> simp [h] at hi

theorem FieldView.Sound.count_of_unpublished {v : FieldView} (hv : v.Sound) {i : SlotId}
    (hi : (v.field.slot i).state = .free ∨ (v.field.slot i).state = .loading) : v.count i = 0 :=
  Multiset.countP_eq_zero.2 fun _ hr => hv.not_mem_of_unpublished hi hr

/-- What a FREE or LOADING slot `i` may hold beside an open load (R4, R7, R23). -/
def Slot.Unpublished (x : Slot) (i : SlotId) (load : Option OpenLoad) : Prop :=
  (load = none ∧ x.state = .free ∧ x = x.freed)
    ∨ ∃ l, load = some l ∧ l.slot = i ∧ x.state = .loading ∧ x.pins = 0 ∧ x.hour = some l.hour ∧ l.hour ≤ 240
      ∧ x.fieldSet = some l.fieldSet

theorem Slot.Unpublished.state {x : Slot} {i : SlotId} {load : Option OpenLoad} (h : x.Unpublished i load) :
    x.state = .free ∨ x.state = .loading := by
  rcases h with ⟨-, h, -⟩ | ⟨_, -, -, h, -⟩ <;> simp [h]

theorem Slot.Unpublished.loading_iff {x : Slot} {i : SlotId} {load : Option OpenLoad} (h : x.Unpublished i load) :
    x.state = .loading ↔ ∃ l, load = some l ∧ l.slot = i := by
  rcases h with ⟨hl, h, -⟩ | ⟨l, hl, hi, h, -⟩ <;> simp [h, hl]
  exact hi

theorem Slot.Unpublished.load_slot {x : Slot} {i : SlotId} {load : Option OpenLoad} (h : x.Unpublished i load)
    {l : OpenLoad} (hl : load = some l) : l.slot = i ∧ x.hour = some l.hour ∧ x.fieldSet = some l.fieldSet := by
  rcases h with ⟨hn, -⟩ | ⟨k, hk, hi, -, -, hh, -, hf⟩
  · simp [hn] at hl
  · obtain rfl : k = l := Option.some.inj (hk.symm.trans hl)
    exact ⟨hi, hh, hf⟩

theorem Slot.Unpublished.pins {x : Slot} {i : SlotId} {load : Option OpenLoad} (h : x.Unpublished i load) :
    x.pins = 0 := by
  rcases h with ⟨-, -, h⟩ | ⟨_, -, -, -, h, -⟩
  · rw [h, Slot.freed_pins]
  · exact h

/-- Rewriting the slot of the open load, or a FREE one while there is none, keeps the invariant. -/
theorem FieldView.Sound.rewrite {v : FieldView} (hv : v.Sound) {i : SlotId} {x : Slot} {g : FieldStore}
    {load : Option OpenLoad}
    (hi : (v.field.slot i).state = .free ∨ (v.field.slot i).state = .loading)
    (hload : ∀ l, v.load = some l → l.slot = i) (hx : x.Unpublished i load)
    (hg : ∀ j, g.slot j = if j = i then x else v.field.slot j) (ht : g.timeline = v.field.timeline) :
    Sound { field := g, load := load, refs := v.refs } := by
  have hself : g.slot i = x := by simp [hg]
  have hne {j : SlotId} (h : j ≠ i) : g.slot j = v.field.slot j := by simp [hg, h]
  have hout : i ∉ v.field.timeline := fun h => by simp [(hv.ready i).2 h] at hi
  have hst := hx.state
  refine ⟨fun j => ?_, ?_, fun j => ?_, fun j hj => ?_, fun j hj => ?_, fun l hl => ?_, fun j => ?_, fun j hj => ?_,
    fun r hr => ?_⟩
  · rw [ht]
    by_cases h : j = i
    · subst h; rw [hself]; exact iff_of_false (by rcases hst with h | h <;> simp [h]) hout
    · rw [hne h]; exact hv.ready j
  · rw [ht]
    refine hv.ascending.imp_of_mem fun {a b} ha hb hab => ?_
    have hai : a ≠ i := fun h => hout (h ▸ ha)
    have hbi : b ≠ i := fun h => hout (h ▸ hb)
    simpa [FieldStore.hourOf, hne hai, hne hbi] using hab
  · by_cases h : j = i
    · subst h; rw [hself]; exact hx.loading_iff
    · rw [hne h]
      refine iff_of_false (fun hj => ?_) fun ⟨l, hl, hj⟩ => h (hj ▸ (hx.load_slot hl).1)
      obtain ⟨l, hl, rfl⟩ := (hv.loading j).1 hj
      exact h (hload l hl)
  · by_cases h : j = i
    · subst h; rw [hself] at hj ⊢
      rcases hx with ⟨-, -, hf⟩ | ⟨_, -, -, hs, -⟩
      · exact hf
      · simp [hs] at hj
    · rw [hne h] at hj ⊢; exact hv.free j hj
  · by_cases h : j = i
    · subst h; rw [hself] at hj ⊢
      rcases hx with ⟨-, hs, -⟩ | ⟨l, -, -, -, -, hh, hle, hf⟩
      · exact absurd hs hj
      · exact ⟨⟨l.hour, hh, hle⟩, by simp [hf]⟩
    · rw [hne h] at hj ⊢; exact hv.hour j hj
  · obtain ⟨rfl, hh, hf⟩ := hx.load_slot hl
    rw [hself]; exact ⟨hh, hf⟩
  · by_cases h : j = i
    · subst h; rw [hself, hx.pins]; exact (hv.count_of_unpublished hi).symm
    · rw [hne h]; exact hv.pins j
  · by_cases h : j = i
    · subst h; rw [hself] at hj; simp [hj] at hst
    · rw [hne h] at hj ⊢; exact hv.retiring j hj
  · rw [hne (hv.not_mem_of_unpublished hi hr)]; exact hv.refs r hr

/-- The slot of the open load is LOADING, and carries its hour and field set (R7, R23). -/
theorem FieldView.Sound.unpublished_of_load {v : FieldView} (hv : v.Sound) {l : OpenLoad} (h : v.load = some l) :
    (v.field.slot l.slot).Unpublished l.slot (some l) := by
  have hs := (hv.loading l.slot).2 ⟨l, h, rfl⟩
  obtain ⟨hh, hf⟩ := hv.load l h
  obtain ⟨⟨k, hk, hle⟩, -⟩ := hv.hour l.slot (by simp [hs])
  obtain rfl : k = l.hour := Option.some.inj (hk.symm.trans hh)
  exact .inr ⟨l, rfl, rfl, hs, (hv.pins _).trans (hv.count_of_unpublished (.inr hs)), hh, hle, hf⟩

theorem FieldView.Sound.loading_of_load {v : FieldView} (hv : v.Sound) {l : OpenLoad} (h : v.load = some l) :
    (v.field.slot l.slot).state = .loading := (hv.loading l.slot).2 ⟨l, h, rfl⟩

theorem FieldView.Sound.only_load {v : FieldView} {l : OpenLoad} (h : v.load = some l) :
    ∀ k, v.load = some k → k.slot = l.slot := fun k hk => by
  rw [Option.some.inj (hk.symm.trans h)]

theorem FieldView.Sound.opens {v w : FieldView} {i : SlotId} {x : Slot} {l : OpenLoad} (hv : v.Sound)
    (h : v.Opens w i x l) : w.Sound := by
  obtain ⟨hfree, hclear, ⟨hslot, hh, hf⟩, ⟨hs, hp, -, -⟩, hle, -, -, rfl⟩ := h
  exact hv.rewrite (.inl hfree) (by simp [hclear]) (.inr ⟨l, rfl, hslot, hs, hp, hh, hle, hf⟩)
    (fun j => v.field.slot_setSlot i j x) rfl

/-- A READY slot leaves the Timeline (R12, R13). -/
theorem FieldView.Sound.leave {v : FieldView} (hv : v.Sound) {i : SlotId} (hi : i ∈ v.field.timeline) :
    Sound { v with field := v.field.leaveTimeline i } := by
  have hready := (hv.ready i).2 hi
  have hslot := v.field.slot_leaveTimeline i
  have hne {j : SlotId} (h : j ≠ i) : (v.field.leaveTimeline i).slot j = v.field.slot j := by simp [hslot, h]
  have hcase : ((v.field.slot i).pins = 0 ∧ (v.field.leaveTimeline i).slot i = (v.field.slot i).freed)
      ∨ (1 ≤ (v.field.slot i).pins
        ∧ (v.field.leaveTimeline i).slot i = { v.field.slot i with state := .retiring }) := by
    rcases Nat.eq_zero_or_pos (v.field.slot i).pins with h | h
    · exact .inl ⟨h, by simp [hslot, h]⟩
    · exact .inr ⟨h, by simp [hslot, h.ne']⟩
  have hmem {j : SlotId} : j ∈ (v.field.leaveTimeline i).timeline ↔ j ∈ v.field.timeline ∧ j ≠ i := by simp
  refine ⟨fun j => ?_, ?_, fun j => ?_, fun j hj => ?_, fun j hj => ?_, fun l hl => ?_, fun j => ?_, fun j hj => ?_,
    fun r hr => ?_⟩
  · rw [hmem]
    by_cases h : j = i
    · subst h; rcases hcase with ⟨-, he⟩ | ⟨-, he⟩ <;> simp [he]
    · simpa [hne h, h] using hv.ready j
  · rw [FieldStore.timeline_leaveTimeline]
    refine (hv.ascending.sublist List.filter_sublist).imp_of_mem fun {a b} ha hb hab => ?_
    have hai : a ≠ i := by simpa using (List.mem_filter.1 ha).2
    have hbi : b ≠ i := by simpa using (List.mem_filter.1 hb).2
    simpa [FieldStore.hourOf, hne hai, hne hbi] using hab
  · by_cases h : j = i
    · subst h
      refine iff_of_false (by rcases hcase with ⟨-, he⟩ | ⟨-, he⟩ <;> simp [he]) fun hl => ?_
      simp [(hv.loading j).2 hl] at hready
    · rw [hne h]; exact hv.loading j
  · by_cases h : j = i
    · subst h
      rcases hcase with ⟨-, he⟩ | ⟨-, he⟩
      · rw [he, Slot.freed_freed]
      · simp [he] at hj
    · rw [hne h] at hj ⊢; exact hv.free j hj
  · by_cases h : j = i
    · subst h
      rcases hcase with ⟨-, he⟩ | ⟨-, he⟩
      · simp [he] at hj
      · rw [he]; exact hv.hour j (by simp [hready])
    · rw [hne h] at hj ⊢; exact hv.hour j hj
  · rw [hne fun h => by simp [h ▸ hv.loading_of_load hl] at hready]
    exact hv.load l hl
  · by_cases h : j = i
    · subst h
      rcases hcase with ⟨h0, he⟩ | ⟨-, he⟩ <;> rw [he]
      · exact h0.symm.trans (hv.pins j)
      · exact hv.pins j
    · rw [hne h]; exact hv.pins j
  · by_cases h : j = i
    · subst h
      rcases hcase with ⟨-, he⟩ | ⟨h1, he⟩
      · simp [he] at hj
      · rw [he]; exact h1
    · rw [hne h] at hj ⊢; exact hv.retiring j hj
  · by_cases h : r.slot = i
    · have hc : 1 ≤ v.count r.slot := FieldView.count_pos hr
      rw [← hv.pins, h] at hc
      rcases hcase with ⟨h0, -⟩ | ⟨-, he⟩
      · omega
      · rw [h, he]
        exact ⟨.inr rfl, h ▸ (hv.refs r hr).2⟩
    · rw [hne h]; exact hv.refs r hr

/-- The READY slot of an hour, if any, leaves the Timeline (R12). -/
def FieldStore.clearHour (f : FieldStore) (h : Nat) : FieldStore :=
  match f.slotOfHour h with
  | some j => f.leaveTimeline j
  | none => f

/-- A LOADING slot becomes READY in the Timeline (R11). -/
def FieldStore.enter (f : FieldStore) (i : SlotId) : FieldStore :=
  (f.setSlot i { f.slot i with state := .ready, generation := ((f.slot i).generation + 1) % 256 }).enterTimeline i

/-- Publication clears the hour and enters the slot (R11, R12). -/
theorem FieldStore.publish_eq (f : FieldStore) (i : SlotId) :
    f.publish i = (f.clearHour (f.hourOf i)).enter i := rfl

theorem FieldStore.clearHour_cases (f : FieldStore) (h : Nat) :
    (∃ j ∈ f.timeline, f.hourOf j = h ∧ f.clearHour h = f.leaveTimeline j)
      ∨ ((∀ j ∈ f.timeline, f.hourOf j ≠ h) ∧ f.clearHour h = f) := by
  unfold FieldStore.clearHour
  split
  · next j hj => exact .inl ⟨j, (f.slotOfHour_some hj).1, (f.slotOfHour_some hj).2, rfl⟩
  · next hn => exact .inr ⟨f.slotOfHour_none hn, rfl⟩

/-- No two listed slots have one hour (R10). -/
theorem FieldView.Sound.eq_of_hourOf {v : FieldView} (hv : v.Sound) {i j : SlotId} (hi : i ∈ v.field.timeline)
    (hj : j ∈ v.field.timeline) (h : v.field.hourOf i = v.field.hourOf j) : i = j := by
  by_contra hne
  rcases (List.pairwise_iff_getElem.1 hv.ascending) with hp
  obtain ⟨m, hm, rfl⟩ := List.getElem_of_mem hi
  obtain ⟨n, hn, rfl⟩ := List.getElem_of_mem hj
  rcases Nat.lt_trichotomy m n with hlt | rfl | hlt
  · have := hp m n hm hn hlt; omega
  · exact hne rfl
  · have := hp n m hn hm hlt; omega

theorem FieldView.Sound.clearHour {v : FieldView} (hv : v.Sound) (h : Nat) :
    Sound { v with field := v.field.clearHour h }
      ∧ ∀ j ∈ (v.field.clearHour h).timeline, j ∈ v.field.timeline ∧ v.field.hourOf j ≠ h
        ∧ (v.field.clearHour h).slot j = v.field.slot j := by
  rcases v.field.clearHour_cases h with ⟨i, hi, rfl, he⟩ | ⟨hn, he⟩
  · rw [he]
    refine ⟨hv.leave hi, fun j hj => ?_⟩
    obtain ⟨hjm, hji⟩ : j ∈ v.field.timeline ∧ j ≠ i := by simpa using hj
    exact ⟨hjm, fun e => hji (hv.eq_of_hourOf hjm hi e), by simp [FieldStore.slot_leaveTimeline, hji]⟩
  · rw [he]
    exact ⟨hv, fun j hj => ⟨hj, hn j hj, rfl⟩⟩

theorem FieldStore.clearHour_slot_of_not_mem {f : FieldStore} {i : SlotId} (hi : i ∉ f.timeline) (h : Nat) :
    (f.clearHour h).slot i = f.slot i := by
  rcases f.clearHour_cases h with ⟨j, hj, -, he⟩ | ⟨-, he⟩
  · have : i ≠ j := fun e => hi (e ▸ hj)
    simp [he, FieldStore.slot_leaveTimeline, this]
  · rw [he]

theorem FieldStore.slot_enter (f : FieldStore) (i j : SlotId) :
    (f.enter i).slot j = if j = i then { f.slot i with
      state := .ready, generation := ((f.slot i).generation + 1) % 256 } else f.slot j :=
  f.slot_setSlot i j _

@[simp] theorem FieldStore.hourOf_enter (f : FieldStore) (i j : SlotId) : (f.enter i).hourOf j = f.hourOf j := by
  unfold FieldStore.hourOf
  rw [FieldStore.slot_enter]
  split <;> simp [*]

theorem FieldStore.mem_enter (f : FieldStore) (i j : SlotId) :
    j ∈ (f.enter i).timeline ↔ j = i ∨ (j ∈ f.timeline ∧ f.hourOf j ≠ f.hourOf i) := by
  rw [← f.hourOf_enter i j, ← f.hourOf_enter i i]
  exact (f.setSlot i _).mem_enterTimeline i j

/-- The Timeline stays ascending when a slot enters it (R10, R11). -/
theorem FieldStore.ascending_enter (f : FieldStore) (i : SlotId)
    (h : f.timeline.Pairwise fun j k => f.hourOf j < f.hourOf k) :
    (f.enter i).timeline.Pairwise fun j k => (f.enter i).hourOf j < (f.enter i).hourOf k := by
  have hline : (f.enter i).timeline = (f.timeline.filter fun j => (f.enter i).hourOf j < (f.enter i).hourOf i)
      ++ i :: f.timeline.filter fun j => (f.enter i).hourOf i < (f.enter i).hourOf j := by
    simp [FieldStore.enter, FieldStore.enterTimeline]; rfl
  simp only [hline, FieldStore.hourOf_enter]
  refine List.pairwise_append.2 ⟨h.sublist List.filter_sublist, List.pairwise_cons.2 ⟨fun k hk => ?_,
    h.sublist List.filter_sublist⟩, fun j hj k hk => ?_⟩
  · simpa using (List.mem_filter.1 hk).2
  · have hjlt : f.hourOf j < f.hourOf i := by simpa using (List.mem_filter.1 hj).2
    rcases List.mem_cons.1 hk with rfl | hk
    · exact hjlt
    · have : f.hourOf i < f.hourOf k := by simpa using (List.mem_filter.1 hk).2
      omega

/-- A load whose hour is clear enters the Timeline (R11). -/
theorem FieldView.Sound.enter {v : FieldView} (hv : v.Sound) {l : OpenLoad} (h : v.load = some l)
    (hclear : ∀ j ∈ v.field.timeline, v.field.hourOf j ≠ l.hour) :
    Sound { v with field := v.field.enter l.slot, load := none } := by
  have hs := hv.loading_of_load h
  have hself : (v.field.enter l.slot).slot l.slot = { v.field.slot l.slot with
      state := .ready, generation := ((v.field.slot l.slot).generation + 1) % 256 } := by
    simp [FieldStore.slot_enter]
  have hne {j : SlotId} (hj : j ≠ l.slot) : (v.field.enter l.slot).slot j = v.field.slot j := by
    simp [FieldStore.slot_enter, hj]
  have hmine : v.field.hourOf l.slot = l.hour := by simp [FieldStore.hourOf, (hv.load l h).1]
  have hmem (j : SlotId) : j ∈ (v.field.enter l.slot).timeline ↔ j = l.slot ∨ j ∈ v.field.timeline := by
    rw [FieldStore.mem_enter, hmine]
    exact or_congr_right (and_iff_left_of_imp (hclear j))
  refine ⟨fun j => ?_, v.field.ascending_enter l.slot hv.ascending, fun j => ?_, fun j hj => ?_, fun j hj => ?_,
    fun k hk => by simp at hk, fun j => ?_, fun j hj => ?_, fun r hr => ?_⟩
  · rw [hmem]
    by_cases hj : j = l.slot
    · subst hj; simp [hself]
    · simpa [hne hj, hj] using hv.ready j
  · refine iff_of_false (fun hj => ?_) (by simp)
    by_cases hjl : j = l.slot
    · subst hjl; simp [hself] at hj
    · rw [hne hjl] at hj
      obtain ⟨k, hk, rfl⟩ := (hv.loading j).1 hj
      exact hjl (FieldView.Sound.only_load h k hk)
  · by_cases hjl : j = l.slot
    · subst hjl; simp [hself] at hj
    · rw [hne hjl] at hj ⊢; exact hv.free j hj
  · by_cases hjl : j = l.slot
    · subst hjl; rw [hself]; exact hv.hour l.slot (by simp [hs])
    · rw [hne hjl] at hj ⊢; exact hv.hour j hj
  · by_cases hjl : j = l.slot
    · subst hjl; rw [hself]; exact hv.pins l.slot
    · rw [hne hjl]; exact hv.pins j
  · by_cases hjl : j = l.slot
    · subst hjl; simp [hself] at hj
    · rw [hne hjl] at hj ⊢; exact hv.retiring j hj
  · rw [hne (hv.not_mem_of_unpublished (.inr hs) hr)]; exact hv.refs r hr

theorem FieldView.Sound.publish {v : FieldView} (hv : v.Sound) {l : OpenLoad} (h : v.load = some l) :
    Sound { v with field := v.field.publish l.slot, load := none } := by
  obtain ⟨hc, hm⟩ := hv.clearHour l.hour
  have hh : v.field.hourOf l.slot = l.hour := by simp [FieldStore.hourOf, (hv.load l h).1]
  rw [FieldStore.publish_eq, hh]
  refine FieldView.Sound.enter (v := { v with field := v.field.clearHour l.hour }) hc h fun j hj => ?_
  obtain ⟨-, hne, hs⟩ := hm j hj
  simpa [FieldStore.hourOf, hs] using hne

/-- The invariant does not speak of the grid. -/
theorem FieldView.Sound.regrid {v : FieldView} (hv : v.Sound) (g : Option Grid) :
    Sound { v with field := { v.field with grid := g } } := by
  obtain ⟨h1, h2, h3, h4, h5, h6, h7, h8, h9⟩ := hv
  exact ⟨h1, h2, h3, h4, h5, h6, h7, h8, h9⟩

theorem FieldStore.slot_initial (i : SlotId) : FieldStore.initial.slot i = Slot.initial := by
  simp [FieldStore.initial, FieldStore.slot]

theorem FieldView.Sound.initial : Sound { field := FieldStore.initial, load := none, refs := 0 } := by
  have hslot := FieldStore.slot_initial
  refine ⟨fun i => ?_, List.Pairwise.nil, fun i => ?_, fun i _ => ?_, fun i hi => ?_, fun l hl => by simp at hl,
    fun i => ?_, fun i hi => ?_, fun r hr => by simp at hr⟩
  · exact iff_of_false (by simp [hslot, Slot.initial]) List.not_mem_nil
  · exact iff_of_false (by simp [hslot, Slot.initial]) (by simp)
  · simp [hslot, Slot.freed, Slot.initial]
  · simp [hslot, Slot.initial] at hi
  · simp [hslot, Slot.initial, FieldView.count]
  · simp [hslot, Slot.initial] at hi

theorem FieldView.Sound.change {v w : FieldView} (hv : v.Sound) (h : v.Change w) : w.Sound := by
  cases h with
  | repin h => exact hv.repin h
  | relabel l l' h same =>
    obtain ⟨hs, hh, hf⟩ := same
    have hu := hv.unpublished_of_load h
    refine hv.rewrite (i := l.slot) (x := v.field.slot l.slot) hu.state (only_load h) ?_
      (fun j => by split <;> simp [*]) rfl
    rcases hu with ⟨hn, -⟩ | ⟨k, hk, -, h1, h2, h3, h4, h5⟩
    · simp at hn
    · obtain rfl : l = k := Option.some.inj hk
      exact .inr ⟨l', rfl, hs, h1, h2, hh ▸ h3, hh ▸ h4, hf ▸ h5⟩
  | write l h row col vs m hm =>
    have hu := hv.unpublished_of_load h
    refine hv.rewrite (i := l.slot) hu.state (only_load h) ?_ (fun j => v.field.slot_setSlot l.slot j _) rfl
    rcases hu with ⟨hn, -⟩ | hk
    · simp at hn
    · rw [h]; exact .inr hk
  | drop l h =>
    exact hv.rewrite (hv.unpublished_of_load h).state (only_load h) (.inl ⟨rfl, rfl, rfl⟩)
      (fun j => v.field.slot_setSlot l.slot j _) rfl
  | publish l h => exact hv.publish h
  | leave i h => exact hv.leave h

theorem FieldView.Sound.evolves {v w : FieldView} (hv : v.Sound) (h : v.Evolves w) : w.Sound := by
  induction h with
  | refl => exact hv
  | tail _ h ih => exact ih.change h

end Sys2Proof.Machine
end

section
namespace Sys2Proof.Machine

/-! ### Published contents stay fixed (R5, R8) -/

/-- What the rest of a step may make of a slot: a published one keeps its contents until it is FREE and does not
return from RETIRING to READY, and a FREE one stays FREE. -/
structure Slot.Fixed (x y : Slot) : Prop where
  published : x.state = .ready ∨ x.state = .retiring →
    y.state = .free ∨ (y.state = .retiring ∨ (y.state = .ready ∧ x.state = .ready))
      ∧ y.hour = x.hour ∧ y.fieldSet = x.fieldSet ∧ y.generation = x.generation ∧ y.loaded = x.loaded
      ∧ y.warnings = x.warnings ∧ y.cells = x.cells
  free : x.state = .free → y.state = .free

theorem Slot.Fixed.refl (x : Slot) : x.Fixed x where
  published h := .inr ⟨h.elim (fun h => .inr ⟨h, h⟩) .inl, rfl, rfl, rfl, rfl, rfl, rfl⟩
  free h := h

theorem Slot.Fixed.of_freed (x : Slot) {y : Slot} (h : y.state = .free) : x.Fixed y := ⟨fun _ => .inl h, fun _ => h⟩

theorem Slot.Fixed.of_pins (x : Slot) (n : Nat) : x.Fixed { x with pins := n } :=
  ⟨(Slot.Fixed.refl x).published, (Slot.Fixed.refl x).free⟩

theorem Slot.Fixed.of_retired (x : Slot) (h : x.state = .ready) : x.Fixed { x with state := .retiring } :=
  ⟨fun _ => .inr ⟨.inl rfl, rfl, rfl, rfl, rfl, rfl, rfl⟩, fun hf => by simp [h] at hf⟩

theorem Slot.Fixed.of_loading {x : Slot} (h : x.state = .loading) (y : Slot) : x.Fixed y :=
  ⟨fun hp => by simp [h] at hp, fun hf => by simp [h] at hf⟩

theorem Slot.Fixed.trans {x y z : Slot} (hxy : x.Fixed y) (hyz : y.Fixed z) : x.Fixed z where
  free h := hyz.free (hxy.free h)
  published h := by
    rcases hxy.published h with hy | ⟨hs, h1, h2, h3, h4, h5, h6⟩
    · exact .inl (hyz.free hy)
    · rcases hyz.published (hs.elim .inr fun h => .inl h.1) with hz | ⟨hz, g1, g2, g3, g4, g5, g6⟩
      · exact .inl hz
      · refine .inr ⟨?_, g1.trans h1, g2.trans h2, g3.trans h3, g4.trans h4, g5.trans h5, g6.trans h6⟩
        rcases hz with hz | ⟨hz, hy⟩
        · exact .inl hz
        · rcases hs with hs | ⟨-, hx⟩
          · simp [hs] at hy
          · exact .inr ⟨hz, hx⟩

theorem FieldStore.fixed_setSlot_loading {f : FieldStore} {i : SlotId} (h : (f.slot i).state = .loading) (x : Slot)
    (j : SlotId) : (f.slot j).Fixed ((f.setSlot i x).slot j) := by
  rw [FieldStore.slot_setSlot]
  split
  · next hj => exact .of_loading (hj ▸ h) x
  · exact .refl _

theorem FieldView.Sound.fixed_leave {v : FieldView} (hv : v.Sound) {i : SlotId} (hi : i ∈ v.field.timeline)
    (j : SlotId) : (v.field.slot j).Fixed ((v.field.leaveTimeline i).slot j) := by
  rw [FieldStore.slot_leaveTimeline]
  split
  · next hj =>
    subst hj
    split
    · exact .of_freed _ rfl
    · exact .of_retired _ ((hv.ready j).2 hi)
  · exact .refl _

theorem FieldView.Sound.fixed_publish {v : FieldView} (hv : v.Sound) {l : OpenLoad} (h : v.load = some l)
    (j : SlotId) : (v.field.slot j).Fixed ((v.field.publish l.slot).slot j) := by
  rw [FieldStore.publish_eq, FieldStore.slot_enter]
  split
  · next hj => exact .of_loading (hj ▸ hv.loading_of_load h) _
  · rcases v.field.clearHour_cases (v.field.hourOf l.slot) with ⟨i, hi, -, he⟩ | ⟨-, he⟩ <;> rw [he]
    · exact hv.fixed_leave hi j
    · exact .refl _

theorem FieldView.Sound.fixed_repin {v w : FieldView} (hv : v.Sound) (h : v.Repin w) (j : SlotId) :
    (v.field.slot j).Fixed (w.field.slot j) := by
  cases h with
  | take added h => rw [FieldStore.slot_takeAll]; exact .of_pins _ _
  | release removed kept h =>
    rw [FieldStore.slot_releaseAll]
    · rcases (v.field.slot j).released_cases (refCount removed j) with ⟨-, -, -, he⟩ | ⟨-, he⟩ <;> rw [he]
      · exact .of_freed _ rfl
      · exact .of_pins _ _
    · intro k
      rw [hv.pins k, FieldView.count, h, Multiset.countP_add, countP_coe_eq_refCount]
      omega

theorem FieldView.Sound.fixed_change {v w : FieldView} (hv : v.Sound) (h : v.Change w) (j : SlotId) :
    (v.field.slot j).Fixed (w.field.slot j) := by
  cases h with
  | repin h => exact hv.fixed_repin h j
  | relabel => exact .refl _
  | write l h | drop l h => exact FieldStore.fixed_setSlot_loading (hv.loading_of_load h) _ j
  | publish l h => exact hv.fixed_publish h j
  | leave i h => exact hv.fixed_leave h j

theorem FieldView.Sound.fixed_evolves {v w : FieldView} (hv : v.Sound) (h : v.Evolves w) (j : SlotId) :
    (v.field.slot j).Fixed (w.field.slot j) := by
  induction h with
  | refl => exact .refl _
  | tail h' h ih => exact ih.trans ((hv.evolves h').fixed_change h j)

/-! ### The warning list of a load (R25) -/

/-- The first occurrence of each number, in order. -/
def firsts (l : List Nat) : List Nat := l.reverse.dedup.reverse

/-- The numbers in range of a warning list. -/
def warningsInRange (ws : List Nat) : List Nat := ws.filter fun n => decide (1 ≤ n ∧ n ≤ 31)

theorem mem_firsts {l : List Nat} {n : Nat} : n ∈ firsts l ↔ n ∈ l := by simp [firsts]

theorem nodup_firsts (l : List Nat) : (firsts l).Nodup := by
  simpa [firsts] using List.nodup_dedup l.reverse

theorem firsts_concat (l : List Nat) (n : Nat) :
    firsts (l ++ [n]) = if n ∈ l then firsts l else firsts l ++ [n] := by
  unfold firsts
  rw [List.reverse_append, List.reverse_singleton, List.singleton_append]
  split
  · next h => rw [List.dedup_cons_of_mem (by simpa using h)]
  · next h => rw [List.dedup_cons_of_notMem (by simpa using h), List.reverse_cons]

theorem warningsInRange_concat (ws : List Nat) (n : Nat) :
    warningsInRange (ws ++ [n]) = if 1 ≤ n ∧ n ≤ 31 then warningsInRange ws ++ [n] else warningsInRange ws := by
  unfold warningsInRange
  split <;> simp [List.filter_append, *]

/-- The clean-up takes the numbers one by one (R25). -/
theorem cleanWarnings_concat (ws : List Nat) (n : Nat) :
    cleanWarnings (ws ++ [n]) =
      if n < 1 ∨ 31 < n then ((cleanWarnings ws).1, (cleanWarnings ws).2 + 1)
      else if n ∈ (cleanWarnings ws).1 then cleanWarnings ws
      else if (cleanWarnings ws).1.length = 8 then ((cleanWarnings ws).1, (cleanWarnings ws).2 + 1)
      else ((cleanWarnings ws).1 ++ [n], (cleanWarnings ws).2) := by
  simp [cleanWarnings, List.foldl_append]

/-- The numbers kept: the first eight distinct ones in range (R25). -/
theorem cleanWarnings_kept (ws : List Nat) : (cleanWarnings ws).1 = (firsts (warningsInRange ws)).take 8 := by
  induction ws using List.reverseRecOn with
  | nil => rfl
  | append_singleton ws n ih =>
    have hlen : (cleanWarnings ws).1.length = min 8 (firsts (warningsInRange ws)).length := by simp [ih]
    rw [cleanWarnings_concat, warningsInRange_concat]
    by_cases hr : n < 1 ∨ 31 < n
    · have hout : ¬ (1 ≤ n ∧ n ≤ 31) := by omega
      rw [if_pos hr, if_neg hout, ih]
    · have hin : 1 ≤ n ∧ n ≤ 31 := by omega
      rw [if_neg hr, if_pos hin, firsts_concat]
      by_cases hfull : 8 ≤ (firsts (warningsInRange ws)).length
      · have hkept : (if n ∈ warningsInRange ws then firsts (warningsInRange ws)
            else firsts (warningsInRange ws) ++ [n]).take 8 = (cleanWarnings ws).1 := by
          split
          · exact ih.symm
          · rw [List.take_append_of_le_length hfull, ih]
        have h8 : (cleanWarnings ws).1.length = 8 := by omega
        rw [hkept, if_pos h8]
        split <;> rfl
      · have hall : (cleanWarnings ws).1 = firsts (warningsInRange ws) := by
          rw [ih, List.take_of_length_le (by omega)]
        have h8 : (cleanWarnings ws).1.length ≠ 8 := by omega
        rw [if_neg h8, hall]
        simp only [mem_firsts]
        split
        · exact ih
        · rw [List.take_of_length_le (by simp; omega)]

/-- The occurrences in range that are not kept. -/
def warningsDropped (kept ws : List Nat) : List Nat := (warningsInRange ws).filter fun n => n ∉ kept

/-- The clamps counted: the numbers out of range, and the occurrences in range that are not kept (R25). -/
theorem cleanWarnings_clamps (ws : List Nat) :
    (cleanWarnings ws).2
      = (ws.length - (warningsInRange ws).length) + (warningsDropped (cleanWarnings ws).1 ws).length := by
  induction ws using List.reverseRecOn with
  | nil => rfl
  | append_singleton ws n ih =>
    have hle : (warningsInRange ws).length ≤ ws.length := List.length_filter_le _ _
    have hkept := cleanWarnings_kept ws
    rw [cleanWarnings_concat, warningsDropped, warningsInRange_concat]
    rw [warningsDropped] at ih
    by_cases hr : n < 1 ∨ 31 < n
    · have hout : ¬ (1 ≤ n ∧ n ≤ 31) := by omega
      simp only [hr, hout, if_true, if_false, List.length_append, List.length_singleton]
      omega
    · have hin : 1 ≤ n ∧ n ≤ 31 := by omega
      by_cases hk : n ∈ (cleanWarnings ws).1
      · simp only [hr, hin, hk, and_self, if_true, if_false, List.filter_append, List.length_append,
          List.length_singleton, not_true_eq_false, decide_false, Bool.false_eq_true, not_false_eq_true,
          List.filter_cons_of_neg, List.filter_nil, List.length_nil]
        omega
      · by_cases hfull : (cleanWarnings ws).1.length = 8
        · simp only [hr, hin, hk, hfull, and_self, if_true, if_false, List.filter_append, List.length_append,
            List.length_singleton, not_false_eq_true, decide_true, List.filter_cons_of_pos, List.filter_nil]
          omega
        · have hshort : (firsts (warningsInRange ws)).length < 8 := by
            rw [hkept, List.length_take] at hfull; omega
          have hmine (m : Nat) (h : m ∈ warningsInRange ws) : m ∈ (cleanWarnings ws).1 := by
            rw [hkept, List.take_of_length_le hshort.le]; exact mem_firsts.2 h
          have hold : ((warningsInRange ws).filter fun m => m ∉ (cleanWarnings ws).1) = [] := by simpa using hmine
          have hnew : ((warningsInRange ws ++ [n]).filter fun m => m ∉ (cleanWarnings ws).1 ++ [n]) = [] := by
            simpa using fun m h hm => absurd (hmine m h) hm
          rw [hold] at ih
          simp only [hr, hin, hk, hfull, hnew, and_self, if_true, if_false, List.length_append,
            List.length_singleton, List.length_nil] at ih ⊢
          omega

/-! ### The contents of a slot (R4, R6, R25) -/

/-- `State.CellsSound` of one slot. -/
structure Slot.ContentsSound (x : Slot) : Prop where
  canonical : storeWf absentCell x.cells
  loaded : x.loaded = x.cells.length
  values : ∀ fs, x.fieldSet = some fs → ∀ e ∈ x.cells, CellValue.allowed fs e.2
  warnings : x.warnings.length ≤ 8 ∧ x.warnings.Nodup ∧ ∀ n ∈ x.warnings, 1 ≤ n ∧ n ≤ 31
  generation : x.generation < 256

theorem State.cellsSound_iff (s : State) : s.CellsSound ↔ ∀ i, (s.field.slot i).ContentsSound :=
  ⟨fun ⟨h1, h2, h3, h4, h5⟩ i => ⟨h1 i, h2 i, h3 i, h4 i, h5 i⟩,
    fun h => ⟨fun i => (h i).canonical, fun i => (h i).loaded, fun i => (h i).values, fun i => (h i).warnings,
      fun i => (h i).generation⟩⟩

theorem Slot.ContentsSound.freed {x : Slot} (h : x.generation < 256) : x.freed.ContentsSound :=
  ⟨storeWf_nil _, rfl, by simp, by simp, h⟩

theorem Slot.ContentsSound.initial : Slot.initial.ContentsSound := Slot.ContentsSound.freed (x := Slot.initial) (by decide)

/-- Cleaned warnings are at most eight distinct numbers of 1..31 (R25). -/
theorem cleanWarnings_sound (ws : List Nat) :
    (cleanWarnings ws).1.length ≤ 8 ∧ (cleanWarnings ws).1.Nodup ∧ ∀ n ∈ (cleanWarnings ws).1, 1 ≤ n ∧ n ≤ 31 := by
  rw [cleanWarnings_kept]
  refine ⟨by simp, (nodup_firsts _).sublist (List.take_sublist _ _), fun n hn => ?_⟩
  have := mem_firsts.1 (List.mem_of_mem_take hn)
  simpa [warningsInRange] using (List.mem_filter.1 this).2

/-- A component is put into −1500..1500 (R31). -/
theorem adjustComponent_range (i : Int) : -1500 ≤ (adjustComponent i).1 ∧ (adjustComponent i).1 ≤ 1500 := by
  simp only [adjustComponent, clampInt]; omega

/-- A value as written lies in the ranges of R6 and within the field set (R31). -/
theorem adjustValue_allowed (fs : FieldSet) (x : CellValue) : CellValue.allowed fs (adjustValue fs x).1 := by
  obtain ⟨w, h⟩ := x
  refine ⟨fun a ha => ?_, fun k hk => ?_⟩
  · cases w with
    | none => simp [adjustValue, adjustWind] at ha
    | some w =>
      by_cases hfs : fs = .tide
      · simp [adjustValue, adjustWind, hfs] at ha
      · simp only [adjustValue, adjustWind, hfs, if_false, Option.some.injEq] at ha
        obtain ⟨h1, h2⟩ := adjustComponent_range w.u
        obtain ⟨h3, h4⟩ := adjustComponent_range w.v
        subst ha
        exact ⟨hfs, h1, h2, h3, h4⟩
  · cases h with
    | none => simp [adjustValue, adjustTide] at hk
    | some h =>
      by_cases hfs : fs = .wind
      · simp [adjustValue, adjustTide, hfs] at hk
      · simp only [adjustValue, adjustTide, hfs, if_false, Option.some.injEq, clampInt] at hk
        exact ⟨hfs, by omega, by omega⟩

/-- Writing a block keeps the canonical form and the ranges (R6, R31). -/
theorem writeValues_sound (fs : FieldSet) (row col : Nat) (vs : List CellValue) (m : Store CellValue × Nat)
    (hwf : storeWf absentCell m.1) (hval : ∀ e ∈ m.1, CellValue.allowed fs e.2) :
    storeWf absentCell (writeValues fs row col vs m).1
      ∧ ∀ e ∈ (writeValues fs row col vs m).1, CellValue.allowed fs e.2 := by
  induction vs generalizing col m with
  | nil => exact ⟨hwf, hval⟩
  | cons x xs ih =>
    refine ih (col + 1) _ (storeWf_put _ _ hwf) fun e he => ?_
    rcases mem_storePut he with rfl | he
    · exact adjustValue_allowed fs x
    · exact hval e he

theorem Slot.ContentsSound.released {x : Slot} (h : x.ContentsSound) (n : Nat) : (x.released n).ContentsSound := by
  rcases x.released_cases n with ⟨-, -, -, he⟩ | ⟨-, he⟩ <;> rw [he]
  · exact .freed h.generation
  · exact ⟨h.canonical, h.loaded, h.values, h.warnings, h.generation⟩

theorem FieldStore.contentsSound_setSlot {f : FieldStore} (h : ∀ i, (f.slot i).ContentsSound) {i : SlotId} {x : Slot}
    (hx : x.ContentsSound) (j : SlotId) : ((f.setSlot i x).slot j).ContentsSound := by
  rw [FieldStore.slot_setSlot]
  split
  · exact hx
  · exact h j

theorem FieldStore.contentsSound_leave {f : FieldStore} (h : ∀ i, (f.slot i).ContentsSound) (i j : SlotId) :
    ((f.leaveTimeline i).slot j).ContentsSound := by
  rw [FieldStore.slot_leaveTimeline]
  split
  · split
    · exact .freed (h i).generation
    · exact ⟨(h i).canonical, (h i).loaded, (h i).values, (h i).warnings, (h i).generation⟩
  · exact h j

theorem FieldStore.contentsSound_publish {f : FieldStore} (h : ∀ i, (f.slot i).ContentsSound) (i j : SlotId) :
    ((f.publish i).slot j).ContentsSound := by
  have hc (k : SlotId) : ((f.clearHour (f.hourOf i)).slot k).ContentsSound := by
    rcases f.clearHour_cases (f.hourOf i) with ⟨m, -, -, he⟩ | ⟨-, he⟩ <;> rw [he]
    · exact FieldStore.contentsSound_leave h m k
    · exact h k
  rw [FieldStore.publish_eq, FieldStore.slot_enter]
  split
  · exact ⟨(hc i).canonical, (hc i).loaded, (hc i).values, (hc i).warnings, Nat.mod_lt _ (by decide)⟩
  · exact hc j

theorem FieldView.Sound.contents_change {v w : FieldView} (hv : v.Sound) (h : v.Change w)
    (hc : ∀ i, (v.field.slot i).ContentsSound) (j : SlotId) : (w.field.slot j).ContentsSound := by
  cases h with
  | repin h =>
    cases h with
    | take added h =>
      rw [FieldStore.slot_takeAll]
      exact ⟨(hc j).canonical, (hc j).loaded, (hc j).values, (hc j).warnings, (hc j).generation⟩
    | release removed kept h =>
      rw [FieldStore.slot_releaseAll]
      · exact (hc j).released _
      · intro k
        rw [hv.pins k, FieldView.count, h, Multiset.countP_add, countP_coe_eq_refCount]
        omega
  | relabel => exact hc j
  | write l h row col vs m hm =>
    obtain ⟨hcan, -, hval, hw, hg⟩ := hc l.slot
    have hfs := (hv.load l h).2
    obtain ⟨h1, h2⟩ := writeValues_sound l.fieldSet row col vs ((v.field.slot l.slot).cells, 0) hcan (hval _ hfs)
    rw [← hm] at h1 h2
    refine FieldStore.contentsSound_setSlot hc (x := { v.field.slot l.slot with cells := m.1, loaded := m.1.length })
      ⟨h1, rfl, fun fs hk => ?_, hw, hg⟩ j
    obtain rfl : l.fieldSet = fs := Option.some.inj (hfs.symm.trans hk)
    exact h2
  | drop l h => exact FieldStore.contentsSound_setSlot hc (.freed (hc _).generation) j
  | publish l h => exact FieldStore.contentsSound_publish hc _ j
  | leave i h => exact FieldStore.contentsSound_leave hc i j

theorem FieldView.Sound.contents_evolves {v w : FieldView} (hv : v.Sound) (h : v.Evolves w)
    (hc : ∀ i, (v.field.slot i).ContentsSound) : ∀ j, (w.field.slot j).ContentsSound := by
  induction h with
  | refl => exact hc
  | tail h' h ih => exact (hv.evolves h').contents_change h ih

theorem FieldView.Opens.contents {v w : FieldView} {i : SlotId} {x : Slot} {l : OpenLoad} (h : v.Opens w i x l)
    (hc : ∀ i, (v.field.slot i).ContentsSound) (j : SlotId) : (w.field.slot j).ContentsSound := by
  obtain ⟨-, -, -, ⟨-, -, hl, hcells⟩, -, hg, ⟨ws, hw⟩, rfl⟩ := h
  refine FieldStore.contentsSound_setSlot hc ⟨hcells ▸ storeWf_nil _, by simp [hl, hcells], by simp [hcells], ?_, ?_⟩ j
  · rw [hw]; exact cleanWarnings_sound ws
  · rw [hg]; exact (hc i).generation

end Sys2Proof.Machine
end

section
/-! PROOFS. What the show, the Composer, the Output Stage and Frame Timing can do to the other blocks: they take and
release pins, and leave the settings, ingest, the feed, the coast store and the Area Map as they stand. -/

namespace Sys2Proof.Machine

/-! ### The references held -/

/-- The references the contexts hold. -/
def ShowController.held (c : ShowController) : Multiset SlotRef :=
  ↑(contextRefs c.live) + ↑(contextRefs c.next) + ↑(c.stack.flatMap contextRefs)

/-- The references the waiting snapshot and the composition hold. -/
def Composer.held (c : Composer) : Multiset SlotRef :=
  ↑(c.mailbox.elim [] Snapshot.refs) + ↑(c.composition.elim [] fun x => x.snapshot.refs)

@[simp] theorem contextRefs_none : contextRefs none = [] := rfl

@[simp] theorem contextRefs_some (x : Context) : contextRefs (some x) = refsOf x.stepA x.stepB := rfl

theorem State.view_eq (s : State) :
    s.view = { field := s.field, load := s.ingest.load, refs := s.ctl.held + s.composer.held } := by
  simp only [State.view, State.references, ShowController.held, Composer.held, ← Multiset.coe_add, add_assoc]

theorem State.mem_view_refs_of_live {s : State} {x : Context} (h : s.ctl.live = some x) {r : SlotRef}
    (hr : r ∈ x.refs) : s.view.Offers r := by
  refine .inl ?_
  rw [State.view_eq]
  simp only [ShowController.held, h]
  simp [Context.refs] at hr
  simp [hr]

@[simp] theorem FieldStore.move_nil (f : FieldStore) : f.move [] [] = f := rfl

/-! ### What a playing operation keeps -/

/-- The settings that a command alone changes (R73, R87, R92, R123, R182). -/
structure Settings where
  mode : Mode
  rate : Rate
  bands : BandSettings
  galeMode : GaleMode
  pages : Vector (Option Page) 32

def State.settings (s : State) : Settings :=
  { mode := s.output.mode, rate := s.timing.rate, bands := s.eval.bands, galeMode := s.eval.galeMode,
    pages := s.ctl.pages }

/-- What the show, the Composer, the Output Stage and Frame Timing can do to the rest of the generator. -/
structure State.Plays (s t : State) : Prop where
  repins : s.view.Repins t.view
  settings : t.settings = s.settings
  ingest : t.ingest = s.ingest
  feed : s.FeedSound → t.FeedSound
  coast : t.coast = s.coast
  areaMap : t.areaMap = s.areaMap
  tables : s.TablesSound → t.TablesSound
  bands : s.BandsSound → t.BandsSound

theorem State.Plays.refl (s : State) : s.Plays s := ⟨.refl, rfl, rfl, id, rfl, rfl, id, id⟩

theorem State.Plays.trans {s t u : State} (h : s.Plays t) (k : t.Plays u) : s.Plays u :=
  ⟨h.repins.trans k.repins, k.settings.trans h.settings, k.ingest.trans h.ingest, k.feed ∘ h.feed,
    k.coast.trans h.coast, k.areaMap.trans h.areaMap, k.tables ∘ h.tables, k.bands ∘ h.bands⟩

theorem FieldView.Repin.timeline_grid {v w : FieldView} (h : v.Repin w) :
    w.field.timeline = v.field.timeline ∧ w.field.grid = v.field.grid ∧ w.load = v.load := by
  cases h <;> simp

/-- Takes and releases leave the Timeline and the grid as they are (R17, R18). -/
theorem FieldView.Repins.timeline_grid {v w : FieldView} (h : v.Repins w) :
    w.field.timeline = v.field.timeline ∧ w.field.grid = v.field.grid := by
  induction h with
  | refl => exact ⟨rfl, rfl⟩
  | tail _ h ih => exact ⟨h.timeline_grid.1.trans ih.1, h.timeline_grid.2.1.trans ih.2⟩

theorem State.Plays.grid {s t : State} (h : s.Plays t) : t.field.grid = s.field.grid := h.repins.timeline_grid.2

theorem State.Plays.timeline {s t : State} (h : s.Plays t) : t.field.timeline = s.field.timeline :=
  h.repins.timeline_grid.1

/-- A composition whose inputs are those in force in `t` (R64). -/
def Composition.Fresh (x : Composition) (t : State) : Prop :=
  x.bands = t.eval.bands ∧ x.glyphs = t.eval.glyphs ∧ x.areaMap = t.areaMap

/-- An operation that makes one move of pins, follows its holders, and touches no other store. -/
theorem State.Plays.of_move {s t : State} (added removed : List SlotRef) (offers : ∀ r ∈ added, s.view.Offers r)
    (held : ↑added + (s.ctl.held + s.composer.held) = ↑removed + (t.ctl.held + t.composer.held))
    (field : t.field = s.field.move added removed := by rfl) (settings : t.settings = s.settings := by rfl)
    (ingest : t.ingest = s.ingest := by rfl) (feed : t.feed = s.feed := by rfl) (coast : t.coast = s.coast := by rfl)
    (areaMap : t.areaMap = s.areaMap := by rfl)
    (glyphs : storeWf absentGlyph s.eval.glyphs → storeWf absentGlyph t.eval.glyphs := by exact id)
    (composition : ∀ x, t.composer.composition = some x → s.composer.composition = some x ∨ x.Fresh t
      := by exact fun _ h => .inl h) : s.Plays t := by
  have hbands : t.eval.bands = s.eval.bands := congrArg Settings.bands settings
  refine ⟨?_, settings, ingest, fun h => ?_, coast, areaMap, fun h => ⟨glyphs h.glyphs, ?_, fun x hx => ?_, ?_⟩,
    fun h => ⟨hbands ▸ h.1, fun x hx => ?_⟩⟩
  · have htake := FieldView.Repin.take s.view added offers
    have hrel := FieldView.Repin.release { s.view with field := s.field.takeAll added, refs := ↑added + s.view.refs }
      removed (t.ctl.held + t.composer.held) (by rw [State.view_eq]; exact held)
    refine (Relation.ReflTransGen.single htake).tail ?_
    rw [State.view_eq t, field, ingest]
    exact hrel
  · obtain ⟨h1, h2, h3, h4, h5, h6⟩ := h
    exact ⟨feed ▸ h1, feed ▸ h2, feed ▸ h3, feed ▸ h4, feed ▸ h5, feed ▸ h6⟩
  · rw [areaMap, field, FieldStore.grid_move]; exact h.map
  · rcases composition x hx with hx | ⟨-, hg, hm⟩
    · exact h.copies x hx
    · rw [hg, hm, areaMap]; exact ⟨glyphs h.glyphs, fun m hm => (h.map m hm).1⟩
  · rw [field, FieldStore.grid_move]; exact h.grid
  · rcases composition x hx with hx | ⟨hb, -⟩
    · exact h.2 x hx
    · rw [hb, hbands]; exact h.1

/-- An operation that moves no pin. -/
theorem State.Plays.of_still {s t : State}
    (held : t.ctl.held + t.composer.held = s.ctl.held + s.composer.held := by rfl)
    (field : t.field = s.field := by rfl) (settings : t.settings = s.settings := by rfl)
    (ingest : t.ingest = s.ingest := by rfl) (feed : t.feed = s.feed := by rfl) (coast : t.coast = s.coast := by rfl)
    (areaMap : t.areaMap = s.areaMap := by rfl)
    (glyphs : storeWf absentGlyph s.eval.glyphs → storeWf absentGlyph t.eval.glyphs := by exact id)
    (composition : ∀ x, t.composer.composition = some x → s.composer.composition = some x ∨ x.Fresh t
      := by exact fun _ h => .inl h) : s.Plays t :=
  .of_move [] [] (by simp) (by rw [held]) field settings ingest feed coast areaMap glyphs composition

variable (s : State)

theorem State.at_plays (t : Nat) : s.Plays (s.at t) := .of_still
theorem State.raise_plays (e : Notice) : s.Plays (s.raise e) := .of_still
theorem State.raiseIf_plays (b : Bool) (e : Notice) : s.Plays (s.raiseIf b e) := by cases b <;> exact .of_still
theorem State.modifyPort_plays (p : Port) (g : PortState → PortState) : s.Plays (s.modifyPort p g) := .of_still
theorem State.clearGlyphs_plays : s.Plays s.clearGlyphs := .of_still (glyphs := fun _ => storeWf_nil _)

/-! ### Contexts and cuts -/

theorem contextRefs_map (f : Context → Context) (hf : ∀ x, (f x).refs = x.refs) (x : Option Context) :
    contextRefs (x.map f) = contextRefs x := by
  cases x with
  | none => rfl
  | some x => exact hf x

/-- A change of contexts that keeps their steps keeps the references held. -/
theorem ShowController.held_mapContexts (c : ShowController) (f : Context → Context) (hf : ∀ x, (f x).refs = x.refs) :
    (c.mapContexts f).held = c.held := by
  simp [ShowController.held, ShowController.mapContexts, contextRefs_map f hf, List.flatMap_map]

theorem ShowController.held_put {c : ShowController} {place : ContextPlace} {x y : Context}
    (h : c.at place = some x) (hy : y.refs = x.refs) : (c.put place y).held = c.held := by
  cases place with
  | next =>
    have h : c.next = some x := h
    simp [ShowController.held, ShowController.put, h, contextRefs, hy]
  | live =>
    have h : c.live = some x := h
    simp [ShowController.held, ShowController.put, h, contextRefs, hy]
  | stack i =>
    obtain ⟨hi, hx⟩ : ∃ hi : i < c.stack.length, c.stack[i] = some x := by
      have h : c.stack[i]?.join = some x := h
      simpa [Option.join_eq_some_iff, List.getElem?_eq_some_iff] using h
    have hset : (c.stack.map contextRefs).set i (contextRefs (some y)) = c.stack.map contextRefs := by
      have : contextRefs (some y) = (c.stack.map contextRefs)[i]'(by simpa using hi) := by
        simp [hx, contextRefs, hy]
      rw [this, List.set_getElem_self]
    simp only [ShowController.held, ShowController.put, List.flatMap_def, List.map_set, hset]

theorem State.answerNext_plays : s.Plays s.answerNext := by
  unfold State.answerNext
  split
  · refine (State.Plays.of_still ?_).trans (State.raise_plays _ _)
    simp only [State.withCtl_ctl, State.withCtl_composer, ShowController.held]
    rw [contextRefs_map (fun x => { x with prep := some .ready }) fun _ => rfl]
  · exact .refl s

theorem State.completeCut_plays (place : ContextPlace) : s.Plays (s.completeCut place) := by
  unfold State.completeCut
  split
  · exact .refl s
  · next x hx =>
    split
    · have hput : s.Plays (s.withCtl (s.ctl.put place { x with coast := completedCut s.coast x.window })) := by
        refine .of_still ?_ (settings := ?_)
        · rw [State.withCtl_ctl, ShowController.held_put hx (y := { x with coast := completedCut s.coast x.window }) rfl]
          rfl
        · cases place <;> rfl
      dsimp only
      split
      · exact hput.trans (State.answerNext_plays _)
      · exact hput
    · exact .refl s

/-! ### Building and releasing contexts -/

/-- A resolution offers slots of the Timeline (R14). -/
theorem State.offers_resolve {lo hi : Nat} {r : SlotRef} (h : s.field.resolve lo hi = some r) : s.view.Offers r := by
  obtain ⟨hm, he, -⟩ := s.field.resolve_some h
  exact .inr ⟨r.slot, hm, he⟩

theorem State.offers_resolvePair (lo hi : Nat) :
    ∀ r ∈ refsOf (s.field.resolvePair lo hi).1 (s.field.resolvePair lo hi).2, s.view.Offers r := by
  intro r hr
  unfold FieldStore.resolvePair at hr
  split at hr
  · simp [refsOf] at hr
  · next a ha =>
    rcases List.mem_append.1 hr with hr | hr
    · obtain rfl : r = a := by simpa using hr
      exact s.offers_resolve ha
    · exact s.offers_resolve (by simpa [FieldStore.resolveAfter] using hr)

theorem State.offers_buildContext (i : PageId) (p : Page) (o : Origin) (k : Option Nat) :
    ∀ r ∈ (s.buildContext i p o k).2.refs, s.view.Offers r :=
  s.offers_resolvePair (effectiveStart p k) p.last

/-- NEXT built from a head entry whose page is defined (R103, R104). -/
theorem State.buildNext_built {e : CueEntry} {rest : List CueEntry} {p : Page} (hnext : s.ctl.next = none)
    (hq : s.ctl.queue = e :: rest) (hp : s.ctl.page e.page = some p) :
    s.buildNext =
      (((s.withField (s.buildContext e.page p .cued e.start).1).withCtl { s.ctl with
        queue := rest
        next := some { (s.buildContext e.page p .cued e.start).2 with
          prep := some (if (s.buildContext e.page p .cued e.start).2.cutting then .preparing else .ready) }
        }).raiseIf (!(s.buildContext e.page p .cued e.start).2.cutting) .nextReady).raiseIf rest.isEmpty .cueEmpty := by
  unfold State.buildNext
  rw [hnext, hq]
  dsimp only
  rw [hp]
  rfl

theorem State.buildNext_plays : s.Plays s.buildNext := by
  by_cases hnext : s.ctl.next = none
  · cases hq : s.ctl.queue with
    | nil => rw [State.buildNext, hq, hnext]; exact .refl s
    | cons e rest =>
      cases hp : s.ctl.page e.page with
      | none => rw [State.buildNext, hnext, hq]; dsimp only; rw [hp]; exact .of_still
      | some p =>
        rw [s.buildNext_built hnext hq hp]
        refine (State.Plays.of_move (s.buildContext e.page p .cued e.start).2.refs [] (s.offers_buildContext _ _ _ _)
          ?_).trans ((State.raiseIf_plays _ _ _).trans (State.raiseIf_plays _ _ _))
        simp only [State.withCtl_ctl, State.withCtl_composer, State.withField_composer, ShowController.held, hnext,
          contextRefs_none, contextRefs_some, Context.refs, Multiset.coe_nil]
        abel
  · rw [State.buildNext, if_pos (Option.isSome_iff_ne_none.2 hnext)]; exact .refl s

theorem State.releaseEntry_field (x : Option Context) :
    (s.releaseEntry x).field = s.field.releaseAll (contextRefs x) := by
  cases x <;> rfl

theorem State.takeNext_plays {x : Context} (h : s.ctl.next = some x) : s.Plays (s.takeNext x) := by
  refine State.Plays.trans (t := ((s.releaseEntry s.ctl.live).withCtl
    { s.ctl with next := none, live := some { x with prep := none }, hold := false }).clearGlyphs.clearAlerts) ?_ ?_
  · refine .of_move [] (contextRefs s.ctl.live) (by simp) ?_ (field := ?_) (settings := ?_) (ingest := by simp)
      (feed := by simp) (coast := by simp) (areaMap := by simp) (glyphs := fun _ => storeWf_nil _)
      (composition := fun y hy => .inl (by simpa using hy))
    · simp only [State.clearAlerts_frame, State.clearGlyphs_frame, State.withCtl_ctl, State.withCtl_composer,
        State.releaseEntry_frame, ShowController.held, h, contextRefs_none, contextRefs_some, Multiset.coe_nil]
      abel
    · simp [State.releaseEntry_field, FieldStore.move, FieldStore.takeAll]
    · simp [State.settings, State.clearGlyphs, State.clearAlerts]
  · have : s.takeNext x = (((s.releaseEntry s.ctl.live).withCtl { s.ctl with
        next := none, live := some { x with prep := none }, hold := false }).clearGlyphs.clearAlerts).buildNext := by
      simp [State.takeNext]
    rw [this]
    exact State.buildNext_plays _

end Sys2Proof.Machine
end

section
namespace Sys2Proof.Machine

variable (s : State)

/-! ### The requests of the show -/

theorem FieldStore.releaseAll_append (f : FieldStore) (a b : List SlotRef) :
    (f.releaseAll a).releaseAll b = f.releaseAll (a ++ b) := by
  simp [FieldStore.releaseAll, List.foldl_append]

theorem foldl_releaseEntry_field (l : List (Option Context)) :
    (l.foldl (fun t x => State.releaseEntry t x) s).field = s.field.releaseAll (l.flatMap contextRefs) := by
  induction l generalizing s with
  | nil => rfl
  | cons x l ih =>
    rw [List.foldl_cons, ih, State.releaseEntry_field, FieldStore.releaseAll_append, List.flatMap_cons]

theorem State.releaseStack_field :
    s.releaseStack.field = s.field.releaseAll (s.ctl.stack.reverse.flatMap contextRefs) :=
  foldl_releaseEntry_field s _

theorem State.releaseStack_ctl : s.releaseStack.ctl = { s.ctl with stack := [] } := by
  simp [State.releaseStack, -List.foldl_reverse]

theorem coe_flatMap_reverse (l : List (Option Context)) :
    (↑(l.reverse.flatMap contextRefs) : Multiset SlotRef) = ↑(l.flatMap contextRefs) :=
  Multiset.coe_eq_coe.2 ((List.reverse_perm l).flatMap_right _)

theorem State.releaseStack_plays : s.Plays s.releaseStack := by
  refine .of_move [] (s.ctl.stack.reverse.flatMap contextRefs) (by simp) ?_ (field := ?_) (settings := ?_)
    (ingest := by simp) (feed := by simp) (coast := by simp) (areaMap := by simp) (glyphs := by simp)
    (composition := fun x h => .inl (by simpa using h))
  · rw [State.releaseStack_ctl, coe_flatMap_reverse]
    simp only [State.releaseStack_frame, ShowController.held, List.flatMap_nil, Multiset.coe_nil]
    abel
  · exact State.releaseStack_field s
  · simp [State.settings, State.releaseStack_ctl]

theorem hold_plays : s.Plays (hold s).1 := .of_still

theorem resume_plays : s.Plays (resume s).1 := .of_still

theorem cueClear_plays : s.Plays (cueClear s).1 := .of_still

theorem cue_plays (n : Nat) (k : Option Nat) : s.Plays (cue n k s).1 := by
  unfold cue
  split
  · exact .refl s
  · next i p _ =>
    split
    · exact .refl s
    · split
      · exact .refl s
      · exact .trans (t := s.withCtl { s.ctl with queue := s.ctl.queue ++ [{ page := i, start := k }] })
          .of_still (State.buildNext_plays _)

theorem cueWithdraw_plays : s.Plays (cueWithdraw s).1 := by
  unfold cueWithdraw
  split
  · exact .refl s
  · next x hx =>
    refine .trans (t := (s.releaseContext x).withCtl { s.ctl with next := none })
      (.of_move [] x.refs (by simp) ?_) (State.buildNext_plays _)
    simp only [State.withCtl_ctl, State.withCtl_composer, State.releaseContext_frame, ShowController.held, hx,
      contextRefs_none, contextRefs_some, Context.refs, Multiset.coe_nil]
    abel

theorem take_plays : s.Plays (take s).1 := by
  unfold take
  split
  · exact .refl s
  · next x hx =>
    split
    · exact .refl s
    · exact s.takeNext_plays hx

theorem takeForce_plays : s.Plays (takeForce s).1 := by
  unfold takeForce
  split
  · exact .refl s
  · next x hx => exact s.releaseStack_plays.trans (State.takeNext_plays _ (by rw [State.releaseStack_ctl]; exact hx))

theorem clear_plays : s.Plays (clear s).1 := by
  refine .of_move [] (contextRefs s.ctl.live ++ s.ctl.stack.reverse.flatMap contextRefs) (by simp) ?_ (field := ?_)
    (settings := ?_) (ingest := by simp) (feed := by simp) (coast := by simp) (areaMap := by simp)
    (glyphs := fun _ => storeWf_nil _) (composition := fun x h => .inl (by simpa using h))
  · rw [← Multiset.coe_add, coe_flatMap_reverse]
    simp only [clear, State.clearGlyphs_frame, State.clearAlerts_frame, State.withCtl_ctl, State.withCtl_composer,
      State.releaseStack_frame, State.releaseStack_ctl, State.releaseEntry_frame, ShowController.held,
      contextRefs_none, List.flatMap_nil, Multiset.coe_nil]
    abel
  · simp [clear, State.releaseStack_field, State.releaseEntry_field, FieldStore.releaseAll_append, FieldStore.move,
      FieldStore.takeAll]
  · simp [State.settings, clear, State.clearGlyphs, State.clearAlerts, State.releaseStack_ctl]

theorem insert_plays (n : Nat) : s.Plays (insert n s).1 := by
  unfold insert
  split
  · exact .refl s
  · split
    · exact .refl s
    · next i p _ =>
      refine .of_move (s.buildContext i p .insert none).2.refs [] (s.offers_buildContext _ _ _ _) ?_
        (glyphs := fun _ => storeWf_nil _)
      simp only [State.clearGlyphs_frame, State.clearAlerts_frame, State.withCtl_ctl, State.withCtl_composer,
        State.withField_composer, ShowController.held, contextRefs_some, Context.refs, List.flatMap_append,
        List.flatMap_singleton, ← Multiset.coe_add, Multiset.coe_nil]
      abel

theorem insertEnd_plays : s.Plays (insertEnd s).1 := by
  unfold insertEnd
  split
  · exact .refl s
  · next top htop =>
    have hstack : s.ctl.stack.flatMap contextRefs = s.ctl.stack.dropLast.flatMap contextRefs ++ contextRefs top := by
      conv_lhs => rw [← List.dropLast_append_getLast? top htop]
      simp
    refine .of_move [] (contextRefs s.ctl.live) (by simp) ?_ (field := ?_) (settings := ?_) (ingest := by simp)
      (feed := by simp) (coast := by simp) (areaMap := by simp) (glyphs := fun _ => storeWf_nil _)
      (composition := fun x h => .inl (by simpa using h))
    · simp only [State.clearGlyphs_frame, State.clearAlerts_frame, State.withCtl_ctl, State.withCtl_composer,
        State.releaseEntry_frame, ShowController.held, hstack, ← Multiset.coe_add, Multiset.coe_nil]
      abel
    · simp [State.releaseEntry_field, FieldStore.move, FieldStore.takeAll]
    · simp [State.settings, State.clearGlyphs, State.clearAlerts]

/-- A move of LIVE's steps to others that are offered (R19). -/
theorem State.moveLive_plays {x : Context} (h : s.ctl.live = some x) {a b : Option SlotRef}
    (hab : ∀ r ∈ refsOf a b, s.view.Offers r) (n : Nat) (e : Bool) : s.Plays (s.moveLive x a b n e) := by
  refine .of_move (refsOf a b) x.refs hab ?_
  simp only [State.moveLive, State.withCtl_ctl, State.withCtl_composer, State.withField_composer,
    ShowController.held, h, contextRefs_some, Context.refs]
  abel

theorem jump_plays (k : Nat) : s.Plays (jump k s).1 := by
  unfold jump
  split
  · exact .refl s
  · split
    · exact .refl s
    · next x hx => exact (s.moveLive_plays hx (s.offers_resolvePair _ _) 0 false).trans (State.clearGlyphs_plays _)

theorem deskReset_plays : s.Plays (deskReset s).1 := by
  refine .of_move [] (contextRefs s.ctl.next) (by simp) ?_ (field := ?_) (settings := ?_) (ingest := by simp)
    (feed := by simp) (coast := by simp) (areaMap := by simp) (glyphs := by simp)
    (composition := fun x h => .inl (by simpa using h))
  · simp only [deskReset, State.withCtl_ctl, State.withCtl_composer, State.releaseEntry_frame,
      State.modifyPort_ctl, State.modifyPort_composer, ShowController.held, contextRefs_none, Multiset.coe_nil]
    abel
  · simp [deskReset, State.releaseEntry_field, FieldStore.move, FieldStore.takeAll]
  · simp [State.settings, deskReset]

/-! ### The Composer -/

theorem State.judgeLate_composer : s.judgeLate.composer = { s.composer with governor := s.composer.governor.late.1 } := by
  simp [State.judgeLate]

theorem State.judgeOnTime_composer :
    s.judgeOnTime.composer = { s.composer with governor := s.composer.governor.onTime.1 } := by
  simp [State.judgeOnTime]

/-- The references of the snapshot of LIVE are those of LIVE (R143). -/
theorem State.snapshot_refs : s.snapshot.refs = contextRefs s.ctl.live := by
  unfold State.snapshot Snapshot.refs
  cases s.ctl.live <;> rfl

/-- During a composition the snapshot waits in the mailbox, and one that waited there is let go (R145). -/
theorem State.sendSnapshot_busy {y : Composition} (hc : s.composer.composition = some y) :
    s.sendSnapshot.composer.mailbox = some s.snapshot
      ∧ s.sendSnapshot.composer.composition = s.composer.composition
      ∧ s.sendSnapshot.field = s.field.move s.snapshot.refs (s.composer.mailbox.elim [] Snapshot.refs) := by
  unfold State.sendSnapshot State.snapshotArrives
  cases hm : s.composer.mailbox with
  | none => simp [hc, hm, State.judgeLate_composer, FieldStore.move, FieldStore.releaseAll]
  | some old => simp [hc, hm, State.judgeLate_composer, FieldStore.move]

/-- Sending a snapshot takes its references, and lets go of those of a waiting snapshot that it replaces
(R143, R145). -/
theorem State.sendSnapshot_plays : s.Plays s.sendSnapshot := by
  have offers : ∀ r ∈ s.snapshot.refs, s.view.Offers r := by
    rw [State.snapshot_refs]
    intro r hr
    cases hl : s.ctl.live with
    | none => simp [hl] at hr
    | some x => exact State.mem_view_refs_of_live hl (by rw [hl] at hr; exact hr)
  have settings : s.sendSnapshot.settings = s.settings := by simp [State.settings]
  cases hc : s.composer.composition with
  | none =>
    refine .of_move s.snapshot.refs [] offers ?_ (field := ?_) settings (ingest := by simp) (feed := by simp)
      (coast := by simp) (areaMap := by simp) (glyphs := by simp) (composition := fun x hx => .inr ?_)
    · simp [State.sendSnapshot, State.snapshotArrives, hc, State.beginComposition, State.judgeOnTime_composer,
        Composer.held, -Multiset.coe_add]
      abel
    · simp [State.sendSnapshot, State.snapshotArrives, hc, FieldStore.move, FieldStore.releaseAll]
    · simp [State.sendSnapshot, State.snapshotArrives, hc, State.beginComposition] at hx
      subst hx
      simp [Composition.Fresh]
  | some y =>
    obtain ⟨hmailbox, hcomposition, hfield⟩ := s.sendSnapshot_busy hc
    refine .of_move s.snapshot.refs (s.composer.mailbox.elim [] Snapshot.refs) offers ?_ hfield settings
      (ingest := by simp) (feed := by simp) (coast := by simp) (areaMap := by simp) (glyphs := by simp)
      (composition := fun x hx => .inl (hcomposition ▸ hx))
    have hctl : s.sendSnapshot.ctl = s.ctl := by simp
    rw [hctl, Composer.held, Composer.held, hmailbox, hcomposition, Option.elim_some]
    abel

end Sys2Proof.Machine
end

section
namespace Sys2Proof.Machine

variable (s : State)

/-- A cell result written to the Glyph Memory keeps its canonical form (R77). -/
theorem storeWf_writeGlyphs (g : Option Grid) (cells : List CellResult) (m : Store GlyphEntry)
    (h : storeWf absentGlyph m) : storeWf absentGlyph (cells.foldl (writeGlyph g) m) := by
  induction cells generalizing m with
  | nil => exact h
  | cons r rs ih =>
    refine ih _ ?_
    unfold writeGlyph
    split
    · exact storeWf_put _ _ h
    · exact h

theorem State.writeEvaluation_eval (cells : List CellResult) (b : Nat) (sums : List AreaSummary) :
    (s.writeEvaluation cells b sums).eval = { s.eval with
      glyphs := cells.foldl (writeGlyph s.field.grid) s.eval.glyphs, alerts := alertsOf b sums } := by
  unfold State.writeEvaluation
  dsimp only
  split <;> simp

/-- The state of a completion before the waiting snapshot, if any, begins its composition (R149). -/
theorem State.completeComposition_eq (x : Composition) :
    ∃ t : State, (s.completeComposition x = match t.composer.mailbox with
        | some next => (t.withComposer { t.composer with mailbox := none }).beginComposition next
        | none => t)
      ∧ t.field = s.field.releaseAll x.snapshot.refs ∧ t.ctl = s.ctl ∧ t.ingest = s.ingest ∧ t.feed = s.feed
      ∧ t.coast = s.coast ∧ t.areaMap = s.areaMap ∧ t.settings = s.settings
      ∧ t.composer.mailbox = s.composer.mailbox ∧ t.composer.composition = none
      ∧ (storeWf absentGlyph s.eval.glyphs → storeWf absentGlyph t.eval.glyphs) := by
  refine ⟨_, rfl, by simp, by simp, by simp, by simp, by simp, by simp, ?_, by simp, by simp, fun h => ?_⟩
  · simp [State.settings, State.writeEvaluation_eval]
  · rw [State.writeEvaluation_eval]
    exact storeWf_writeGlyphs _ _ _ h

/-- A completion releases the references of its snapshot (R149). -/
theorem State.completeComposition_plays {x : Composition} (h : s.composer.composition = some x) :
    s.Plays (s.completeComposition x) := by
  obtain ⟨t, ht, hf, hc, hi, hfeed, hcoast, hmap, hset, hmail, hcomp, hg⟩ := s.completeComposition_eq x
  rw [ht]
  cases hm : t.composer.mailbox with
  | none =>
    refine .of_move [] x.snapshot.refs (by simp) ?_ hf hset hi hfeed hcoast hmap hg
      (fun y hy => absurd hy (by simp [hcomp]))
    simp only [Composer.held, hc, h, hcomp, ← hmail, hm, Option.elim_some, Option.elim_none, Multiset.coe_nil]
    abel
  | some next =>
    refine .of_move [] x.snapshot.refs (by simp) ?_ hf hset hi hfeed hcoast hmap hg (fun y hy => .inr ?_)
    · simp only [State.beginComposition, State.withComposer_composer, State.withComposer_ctl, Composer.held, hc, h,
        ← hmail, hm, Option.elim_some, Option.elim_none, Multiset.coe_nil]
      abel
    · obtain rfl := Option.some.inj hy
      exact ⟨rfl, rfl, rfl⟩

/-! ### The Sequencer -/

theorem State.offers_refsOf {a b : Option SlotRef} (ha : ∀ r, a = some r → s.view.Offers r)
    (hb : ∀ r, b = some r → s.view.Offers r) : ∀ r ∈ refsOf a b, s.view.Offers r := by
  intro r hr
  rcases List.mem_append.1 hr with hr | hr
  · exact ha r (by simpa using hr)
  · exact hb r (by simpa using hr)

theorem State.offers_stepA {x : Context} (h : s.ctl.live = some x) : ∀ r, x.stepA = some r → s.view.Offers r :=
  fun _ hr => State.mem_view_refs_of_live h (List.mem_append_left _ (by simp [hr]))

theorem State.offers_stepB {x : Context} (h : s.ctl.live = some x) : ∀ r, x.stepB = some r → s.view.Offers r :=
  fun _ hr => State.mem_view_refs_of_live h (List.mem_append_right _ (by simp [hr]))

theorem State.offers_none : ∀ r, (none : Option SlotRef) = some r → s.view.Offers r := by simp

theorem State.endHoldLast_plays {x : Context} (h : s.ctl.live = some x) : s.Plays (s.endHoldLast x) :=
  (s.moveLive_plays h (s.offers_refsOf (s.offers_stepA h) s.offers_none) 0 true).trans (State.raise_plays _ _)

theorem State.advanceTake_plays : s.Plays s.advanceTake := by
  unfold State.advanceTake
  split
  · next n hn => exact s.takeNext_plays hn
  · exact .refl s

theorem State.endAction_plays {x : Context} (h : s.ctl.live = some x) : s.Plays (s.endAction x) := by
  unfold State.endAction
  split
  · exact s.endHoldLast_plays h
  · exact s.moveLive_plays h (s.offers_resolvePair _ _) 0 false
  · unfold State.endAdvance
    split
    · exact s.advanceTake_plays
    · exact s.endHoldLast_plays h

theorem State.offers_resolveAfter (k hi : Nat) : ∀ r, s.field.resolveAfter k hi = some r → s.view.Offers r :=
  fun _ hr => s.offers_resolve hr

theorem State.stepBoundary_plays {x : Context} (h : s.ctl.live = some x) (a : SlotRef) :
    s.Plays (s.stepBoundary x a) := by
  unfold State.stepBoundary
  split
  · next a' ha' =>
    refine s.moveLive_plays h (s.offers_refsOf ?_ (s.offers_resolveAfter _ _)) 0 x.ended
    rintro r ⟨⟩
    exact s.offers_resolve ha'
  · exact s.endAction_plays h

theorem State.endedCheck_plays {x : Context} (h : s.ctl.live = some x) {a : SlotRef} (ha : x.stepA = some a) :
    s.Plays (s.endedCheck x a) := by
  unfold State.endedCheck
  split
  · next b hb =>
    refine s.moveLive_plays h (s.offers_refsOf (ha ▸ s.offers_stepA h) ?_) x.phase false
    rintro r ⟨⟩
    exact s.offers_resolve hb
  · split
    · exact s.advanceTake_plays
    · split
      · next i hi =>
        refine s.moveLive_plays h (s.offers_refsOf ?_ (s.offers_stepB h)) x.phase true
        rintro r ⟨⟩
        exact .inr ⟨i, List.mem_of_find?_eq_some hi, rfl⟩
      · exact .refl s

theorem State.resolveStarved_plays {x : Context} (h : s.ctl.live = some x) : s.Plays (s.resolveStarved x) := by
  have offers := s.offers_resolvePair x.copy.first x.copy.last
  unfold State.resolveStarved
  split
  · next a b hab => rw [hab] at offers; exact s.moveLive_plays h offers 0 false
  · exact .refl s

/-- The advance of LIVE makes at most one move of its pins (R136). -/
theorem State.advanceLive_plays {x : Context} (h : s.ctl.live = some x) : s.Plays (s.advanceLive x) := by
  unfold State.advanceLive
  split
  · exact s.resolveStarved_plays h
  · next a ha =>
    split
    · exact s.endedCheck_plays h ha
    · split
      · refine .of_still ?_
        simp only [State.withCtl_ctl, State.withCtl_composer, ShowController.held, h, contextRefs_some]
      · exact s.stepBoundary_plays h a

theorem State.advance_plays : s.Plays s.advance := by
  unfold State.advance
  split
  · next x hx =>
    split
    · exact .refl s
    · exact s.advanceLive_plays hx
  · exact .refl s

theorem State.sequence_plays : s.Plays s.sequence := by
  unfold State.sequence
  split
  · exact s.advance_plays.trans (State.sendSnapshot_plays _)
  · exact .refl s

/-! ### The Output Stage -/

theorem State.refill_plays : s.Plays s.refill := .of_still

theorem State.refillKeyed_plays : s.Plays s.refillKeyed := .of_still

theorem State.refillIfDormant_plays : s.Plays s.refillIfDormant := by
  unfold State.refillIfDormant
  split
  · exact s.refill_plays
  · exact .refl s

theorem State.outputFrame_plays : s.Plays s.outputFrame := by
  unfold State.outputFrame
  split
  · next r _ =>
    exact .trans (t := (s.withComposer { s.composer with completed := none }).withOutput
      { s.output with shown := some r }) .of_still (State.refillKeyed_plays _)
  · exact s.refillKeyed_plays

theorem State.leaveSafe_plays : s.Plays s.leaveSafe :=
  .trans (t := (s.withOutput { s.output with freeze := none }).raise .safeLeft) .of_still (State.refillIfDormant_plays _)

theorem State.safeChanged_plays (b : Bool) : s.Plays (s.safeChanged b) := by
  unfold State.safeChanged
  split
  · split
    · exact .refl s
    · exact .of_still
  · split
    · exact s.leaveSafe_plays
    · exact .refl s

theorem safeSet_plays (n : Nat) (c : Option Nat) : s.Plays (safeSet n c s).1 := by
  unfold safeSet
  split
  · exact .refl s
  · next on _ =>
    split
    · exact .refl s
    · exact .trans (t := s.withOutput { s.output with card := (c.bind cardOfCode).getD s.output.card, safeSet := on })
        .of_still (State.safeChanged_plays _ _)

theorem State.setLineup_plays (on : Bool) : s.Plays (s.setLineup on) := by
  unfold State.setLineup
  split
  · exact .refl s
  · exact .trans (t := s.withOutput { s.output with lineup := on }) .of_still (State.refillIfDormant_plays _)

theorem lineup_plays (n : Nat) : s.Plays (lineup n s).1 := by
  unfold lineup
  split
  · exact .refl s
  · split
    · exact .refl s
    · exact s.setLineup_plays _

theorem State.resetOutput_plays : s.Plays s.resetOutput :=
  .trans (t := s.withOutput { s.output with safeSet := false, card := .still }) .of_still
    ((State.safeChanged_plays _ _).trans (State.setLineup_plays _ _))

/-! ### Frame Timing -/

section Chains

variable {s} {t : State}

/-- A change of Frame Timing that keeps the rate. -/
theorem State.Plays.withTiming (h : s.Plays t) {x : FrameTiming} (hx : x.rate = t.timing.rate := by rfl) :
    s.Plays (t.withTiming x) :=
  h.trans (.of_still (settings := by simp [State.settings, hx]))

theorem State.Plays.raise (h : s.Plays t) {e : Notice} : s.Plays (t.raise e) := h.trans (t.raise_plays e)

theorem State.Plays.frameStart (h : s.Plays t) {n : Nat} : s.Plays (t.frameStart n) :=
  .trans (t := (t.withTiming { t.timing with
      frameCount := (t.timing.frameCount + 1) % 4294967296, lastFrameStart := some n, started := true }).sequence)
    (h.withTiming.trans (State.sequence_plays _)) (State.outputFrame_plays _)

theorem State.Plays.makeOverdue (h : s.Plays t) : s.Plays t.makeOverdue := by
  unfold State.makeOverdue
  split
  · split
    · exact h.withTiming.frameStart
    · exact h
  · exact h

end Chains

theorem State.internalFrameStart_plays (d : Nat) : s.Plays (s.internalFrameStart d) := by
  have clock := s.at_plays d
  unfold State.internalFrameStart
  dsimp only
  split
  · split
    · exact clock.withTiming.raise.frameStart
    · exact clock.withTiming.frameStart
  · exact clock.withTiming.frameStart

theorem State.lockingPulse_plays (d : Nat) : s.Plays (s.lockingPulse d) := by
  have lock := (State.Plays.refl s).withTiming (x := { s.timing with
    lock := .locked, measured := d, goodIntervals := s.timing.goodIntervals + 1, lastPulse := some s.now,
    nextDue := none })
  unfold State.lockingPulse
  dsimp only
  split
  · exact lock.raise.withTiming
  · exact lock.raise.frameStart

theorem State.acquiringPulse_plays (d : Nat) : s.Plays (s.acquiringPulse d) := by
  unfold State.acquiringPulse
  dsimp only
  split
  · split
    · exact s.lockingPulse_plays d
    · exact (State.Plays.refl s).withTiming
  · exact (State.Plays.refl s).withTiming

theorem State.lockedPulse_plays (d : Nat) : s.Plays (s.lockedPulse d) := by
  unfold State.lockedPulse
  dsimp only
  split
  · exact (State.Plays.refl s).withTiming
  · exact (State.Plays.refl s).withTiming.frameStart

theorem State.pulse_plays : s.Plays s.pulse := by
  have first : s.Plays s.firstPulse := (State.Plays.refl s).withTiming
  unfold State.pulse
  dsimp only
  split
  · exact first
  · split
    · exact s.acquiringPulse_plays _
    · exact first
  · split
    · exact s.lockedPulse_plays _
    · exact (State.Plays.refl s).withTiming.frameStart
  · exact first.withTiming.makeOverdue

theorem State.resetTiming_plays : s.Plays s.resetTiming := by
  unfold State.resetTiming
  dsimp only
  split
  · exact (State.Plays.refl s).withTiming
  · split
    · exact (State.Plays.refl s).withTiming.makeOverdue
    · exact (State.Plays.refl s).withTiming

theorem State.nextFrameStart_plays (t : Nat) : s.Plays ((s.nextFrameStart t).getD s) := by
  unfold State.nextFrameStart
  split
  · split
    · split
      · exact .refl s
      · exact (s.at_plays t).trans (State.pulse_plays _)
    · exact .refl s
  · cases s.timing.nextDue with
    | none => exact .refl s
    | some d => exact s.internalFrameStart_plays d

theorem playoutReset_plays : s.Plays (playoutReset s).1 :=
  .trans (t := (s.resetPort .pp).withComposer { s.composer with
      governor := Governor.initial, late := 0, lateFrames := 0, dropped := 0 })
    .of_still ((State.resetOutput_plays _).trans (State.resetTiming_plays _))

end Sys2Proof.Machine
end

section
namespace Sys2Proof.Machine

variable (s : State)

/-! ### The Feed Monitor (R37 to R42) -/

/-- What FEED_SETTINGS puts in force (R42). -/
structure FeedMonitor.SettingsSound (f : FeedMonitor) : Prop where
  target : f.targetM ≤ 15 ∧ f.targetE ≤ 15
  coverage : f.coverageMin ≤ 100
  timeout : 10 ≤ f.staleTimeout ∧ f.staleTimeout ≤ 600

/-- `State.FeedSound`, stated of the monitor. -/
structure FeedMonitor.Sound (f : FeedMonitor) : Prop extends f.SettingsSound where
  counts : f.windowCount ≤ 16777215 ∧ f.lastWindow ≤ 16777215 ∧ f.continuous ≤ 16777215
  window : ∀ n, windowLength f.window = some n → f.elapsed ≤ n
  timer : f.staleSeconds ≤ f.staleTimeout

theorem State.feedSound_iff : s.FeedSound ↔ s.feed.Sound :=
  ⟨fun ⟨h1, h2, h3, h4, h5, h6⟩ => ⟨⟨h2, h3, h4⟩, h1, h5, h6⟩, fun ⟨⟨h2, h3, h4⟩, h1, h5, h6⟩ => ⟨h1, h2, h3, h4, h5, h6⟩⟩

/-- An operation on the Feed Monitor alone. -/
theorem State.Plays.of_feed {s t : State} (feed : s.feed.Sound → t.feed.Sound)
    (field : t.field = s.field := by simp) (ingest : t.ingest = s.ingest := by simp)
    (coast : t.coast = s.coast := by simp) (areaMap : t.areaMap = s.areaMap := by simp)
    (ctl : t.ctl = s.ctl := by simp) (eval : t.eval = s.eval := by simp)
    (composer : t.composer = s.composer := by simp) (output : t.output = s.output := by simp)
    (rate : t.timing.rate = s.timing.rate := by simp) : s.Plays t := by
  have hview : t.view = s.view := by rw [State.view_eq, State.view_eq, field, ingest, ctl, composer]
  refine ⟨hview ▸ .refl, by simp only [State.settings, output, rate, eval, ctl], ingest, ?_, coast, areaMap,
    fun ⟨h1, h2, h3, h4⟩ => ?_, fun h => ?_⟩
  · rw [State.feedSound_iff, State.feedSound_iff]; exact feed
  · exact ⟨eval ▸ h1, areaMap ▸ field ▸ h2, composer ▸ h3, field ▸ h4⟩
  · exact ⟨eval ▸ h.1, composer ▸ h.2⟩

theorem sat24_le (n : Nat) : sat24 n ≤ 16777215 := Nat.min_le_left _ _

theorem State.erroredRecord_plays : s.Plays s.erroredRecord := by
  refine .of_feed fun ⟨hset, ⟨h1, h2, h3⟩, hw, ht⟩ => ?_
  unfold State.erroredRecord
  dsimp only
  split
  · split
    · exact ⟨⟨hset.target, hset.coverage, hset.timeout⟩, ⟨h1, h2, sat24_le _⟩, hw, ht⟩
    · exact ⟨⟨hset.target, hset.coverage, hset.timeout⟩, ⟨h1, h2, sat24_le _⟩, hw, ht⟩
  · exact ⟨⟨hset.target, hset.coverage, hset.timeout⟩, ⟨sat24_le _, h2, h3⟩, hw, ht⟩

theorem State.endWindow_plays : s.Plays s.endWindow := by
  refine .of_feed fun ⟨hset, ⟨h1, h2, h3⟩, hw, ht⟩ => ?_
  have ended (x : FeedState) : FeedMonitor.Sound
      { s.feed with state := x, lastWindow := s.feed.windowCount, windowCount := 0, elapsed := 0 } :=
    ⟨⟨hset.target, hset.coverage, hset.timeout⟩, ⟨by simp, h1, h3⟩, fun _ _ => Nat.zero_le _, ht⟩
  unfold State.endWindow
  dsimp only
  split
  · split
    · exact ended _
    · exact ended _
  · split
    · exact ended _
    · exact ended _

theorem State.expireStale_plays : s.Plays s.expireStale := by
  refine .of_feed fun ⟨hset, hc, hw, _⟩ => ?_
  have expired (x : FeedState) : FeedMonitor.Sound
      { s.feed with state := x, staleSeconds := s.feed.staleTimeout, staleRunning := false } :=
    ⟨⟨hset.target, hset.coverage, hset.timeout⟩, hc, hw, le_rfl⟩
  unfold State.expireStale
  dsimp only
  split
  · exact expired _
  · exact expired _

theorem State.goodIngestFrame_plays : s.Plays s.goodIngestFrame := by
  refine .of_feed fun ⟨hset, hc, hw, _⟩ => ?_
  have restarted (x : FeedState) : FeedMonitor.Sound
      { s.feed with state := x, staleSeconds := 0, staleRunning := true } :=
    ⟨⟨hset.target, hset.coverage, hset.timeout⟩, hc, hw, Nat.zero_le _⟩
  unfold State.goodIngestFrame
  dsimp only
  split
  · exact restarted _
  · exact restarted _

/-- What FEED_SETTINGS and INGEST_RESET share needs only the settings in force (R42, R44). -/
theorem State.restartFeed_sound (h : s.feed.SettingsSound) : s.restartFeed.feed.Sound := by
  have restarted (x : FeedState) : FeedMonitor.Sound { s.feed with
      state := x, windowCount := 0, lastWindow := 0, continuous := 0, elapsed := 0, staleSeconds := 0,
      staleRunning := true } :=
    ⟨⟨h.target, h.coverage, h.timeout⟩, ⟨by simp, by simp, by simp⟩, fun _ _ => Nat.zero_le _, Nat.zero_le _⟩
  unfold State.restartFeed
  dsimp only
  split
  · exact restarted _
  · exact restarted _

theorem State.restartFeed_plays : s.Plays s.restartFeed :=
  .of_feed fun h => s.restartFeed_sound h.toSettingsSound

/-- Each field of FEED_SETTINGS is adjusted into its range (R42). -/
theorem FeedMonitor.withSettings_sound {f : FeedMonitor} (h : f.SettingsSound) (x : FeedFields) :
    (f.withSettings x).SettingsSound := by
  obtain ⟨⟨h1, h2⟩, h3, h4, h5⟩ := h
  obtain ⟨w, target, coverage, timeout⟩ := x
  refine ⟨?_, ?_, ?_⟩
  · cases target with
    | none => exact ⟨h1, h2⟩
    | some p => exact ⟨Nat.min_le_left _ _, Nat.min_le_left _ _⟩
  · cases coverage with
    | none => exact h3
    | some c => exact Nat.min_le_left _ _
  · cases timeout with
    | none => exact ⟨h4, h5⟩
    | some t => simp only [FeedMonitor.withSettings, clampNat]; omega

theorem feedSettings_plays (x : FeedFields) : s.Plays (feedSettings x s).1 :=
  .of_feed fun h => (s.withFeed (s.feed.withSettings x)).restartFeed_sound
    (FeedMonitor.withSettings_sound h.toSettingsSound x)

theorem State.passSeconds_plays (n : Nat) : s.Plays (s.passSeconds n) := by
  refine .of_feed (fun ⟨hset, hc, hw, ht⟩ => ⟨⟨hset.target, hset.coverage, hset.timeout⟩, hc, fun m hm => ?_, ?_⟩)
    (rate := rfl)
  · have hm : windowLength s.feed.window = some m := hm
    simp only [State.passSeconds, hm]
    exact Nat.min_le_left _ _
  · simp only [State.passSeconds]
    split
    · exact Nat.min_le_left _ _
    · exact ht

theorem State.tick_plays : s.Plays s.tick := by
  have pass := s.passSeconds_plays 1
  unfold State.tick
  dsimp only
  split
  · exact .refl s
  · split
    · split
      · split
        · exact pass.trans ((State.endWindow_plays _).trans (State.expireStale_plays _))
        · exact pass.trans ((State.expireStale_plays _).trans (State.endWindow_plays _))
      · exact pass.trans (State.endWindow_plays _)
    · split
      · exact pass.trans (State.expireStale_plays _)
      · exact pass

/-! ### The requests that only play -/

/-- The requests whose rule can change the grid, a load, the Timeline by request, the coast store, the Area Map or
the settings. Every other request only plays. -/
def ownsState : Request → Bool
  | .gridDefine _ _ | .stepDrop _ | .stepOpen _ _ _ | .cellBlock _ _ _ _ | .stepClose | .stepCancel | .ingestReset
  | .coastBegin | .coastLineNew _ _ _ | .coastLineContinue _ | .coastEnd | .areaMapBegin _ _ | .areaMapRow _ _ _ _
  | .bandsWrite _ | .pageWrite _ _ | .pageLayers _ _ | .referenceSet _ | .outputMode _ => true
  | _ => false

theorem noticeMask_plays (p : Port) (f : MaskFields) : s.Plays (noticeMask p f s).1 := by
  unfold noticeMask
  split
  · exact .refl s
  · exact .of_still

theorem pageRead_fst (n : Nat) : (pageRead n s).1 = s := by unfold pageRead; split <;> rfl

theorem cellRead_fst (r c n : Nat) : (cellRead r c n s).1 = s := by unfold cellRead; split <;> rfl

theorem handle_plays (p : Port) (r : Request) (h : ownsState r = false) : s.Plays (handle p r s).1 := by
  cases r with
  | gridDefine | stepDrop | stepOpen | cellBlock | stepClose | stepCancel | ingestReset | coastBegin | coastLineNew
  | coastLineContinue | coastEnd | areaMapBegin | areaMapRow | bandsWrite | pageWrite | pageLayers | referenceSet
  | outputMode => cases h
  | feedSettings f => exact feedSettings_plays s f
  | feedRead | bandsRead | cueRead | timingRead | areaRead | timelineRead => exact .refl s
  | pageRead n => exact (pageRead_fst s n).symm ▸ .refl s
  | cellRead a b c => exact (cellRead_fst s a b c).symm ▸ .refl s
  | statusRead | noticeRead => exact .of_still
  | cue n k => exact cue_plays s n k
  | cueClear => exact cueClear_plays s
  | cueWithdraw => exact cueWithdraw_plays s
  | insert n => exact insert_plays s n
  | insertEnd => exact insertEnd_plays s
  | hold => exact hold_plays s
  | resume => exact resume_plays s
  | jump k => exact jump_plays s k
  | deskReset => exact deskReset_plays s
  | take => exact take_plays s
  | takeForce => exact takeForce_plays s
  | clear => exact clear_plays s
  | safeSet n c => exact safeSet_plays s n c
  | lineup n => exact lineup_plays s n
  | playoutReset => exact playoutReset_plays s
  | noticeMask f => exact noticeMask_plays s p f

/-! ### Forecast ingest, seen in the Field Store -/

theorem State.view_congr {s t : State} (field : t.field = s.field := by simp)
    (ingest : t.ingest = s.ingest := by simp) (ctl : t.ctl = s.ctl := by simp)
    (composer : t.composer = s.composer := by simp) : t.view = s.view := by
  rw [State.view_eq, State.view_eq, field, ingest, ctl, composer]

@[simp] theorem State.view_raise (e : Notice) : (s.raise e).view = s.view := State.view_congr
@[simp] theorem State.view_raiseIf (b : Bool) (e : Notice) : (s.raiseIf b e).view = s.view := State.view_congr
@[simp] theorem State.view_erroredRecord : s.erroredRecord.view = s.view := State.view_congr
@[simp] theorem State.view_restartFeed : s.restartFeed.view = s.view := State.view_congr

theorem State.dropLoad_evolves {l : OpenLoad} (h : s.ingest.load = some l) (o : LoadOutcome) (c : Option Nat) :
    s.view.Evolves (s.dropLoad l o c).view := .single (.drop s.view l h)

theorem State.publishLoad_evolves {l : OpenLoad} (h : s.ingest.load = some l) (c : Nat) :
    s.view.Evolves (s.publishLoad l c).view := by
  unfold State.publishLoad
  simp only [State.view_raiseIf, State.view_raise]
  exact .single (.publish s.view l h)

theorem State.judgeClose_evolves : s.view.Evolves s.judgeClose.view := by
  unfold State.judgeClose
  split
  · exact .refl
  · next l hl =>
    dsimp only
    split
    · exact s.publishLoad_evolves hl _
    · rw [State.view_raise]; exact s.dropLoad_evolves hl _ _

theorem State.takeHead_evolves : s.view.Evolves s.takeHead.view := by
  unfold State.takeHead
  split
  · exact .refl
  · split
    · exact .refl
    · exact .refl
    · next rest _ => exact State.judgeClose_evolves (s.withIngest { s.ingest with queue := rest })

theorem State.cancelLoad_evolves {l : OpenLoad} (h : s.ingest.load = some l) :
    s.view.Evolves (s.cancelLoad l).view := by
  unfold State.cancelLoad
  dsimp only
  split
  · exact .single (.relabel s.view l _ h ⟨rfl, rfl, rfl⟩)
  · exact State.dropLoad_evolves (s.withIngest { s.ingest with queue := [] }) h _ _

theorem State.writeBlock_evolves {l : OpenLoad} (h : s.ingest.load = some l) (b : CellBlock) :
    s.view.Evolves (s.writeBlock l b).view :=
  .tail (.single (.write s.view l h b.row b.firstCol b.values _ rfl)) (.relabel _ l _ h ⟨rfl, rfl, rfl⟩)

theorem State.completeDrain_evolves (b : CellBlock) : s.view.Evolves (s.completeDrain b).view := by
  unfold State.completeDrain
  dsimp only
  split
  · exact .refl
  · next l hl =>
    split
    · exact State.dropLoad_evolves (s.withIngest { s.ingest with inFlight := none }) hl _ _
    · split
      · exact (State.writeBlock_evolves (s.withIngest { s.ingest with inFlight := none }) hl b).trans
          (State.takeHead_evolves _)
      · refine Relation.ReflTransGen.trans ?_ (State.takeHead_evolves _)
        rw [State.view_erroredRecord]
        exact .single (.relabel s.view l _ hl ⟨rfl, rfl, rfl⟩)

theorem cellBlock_evolves (r c n : Nat) (v : List CellValue) : s.view.Evolves (cellBlock r c n v s).1.view := by
  unfold cellBlock
  split
  · exact .refl
  · split
    · exact .refl
    · split
      · exact .refl
      · split
        · exact .refl
        · exact State.takeHead_evolves (s.withIngest { s.ingest with
            queue := s.ingest.queue ++ [.block { row := r, firstCol := c, count := n, values := v }] })

theorem stepClose_evolves : s.view.Evolves (stepClose s).1.view := by
  unfold stepClose
  split
  · exact .refl
  · next l hl =>
    split
    · exact .refl
    · split
      · exact .refl
      · exact Relation.ReflTransGen.trans (.single (.relabel s.view l { l with phase := .closing } hl ⟨rfl, rfl, rfl⟩))
          (State.takeHead_evolves (s.withIngest { s.ingest with
            load := some { l with phase := .closing }, queue := s.ingest.queue ++ [.close] }))

theorem stepCancel_evolves : s.view.Evolves (stepCancel s).1.view := by
  unfold stepCancel
  split
  · exact .refl
  · next l hl =>
    dsimp only
    split
    · exact .refl
    · exact s.cancelLoad_evolves hl

theorem ingestReset_evolves : s.view.Evolves (ingestReset s).1.view := by
  have key : (ingestReset s).1.view = (match s.ingest.load with
      | some l => if l.phase = .cancelling then s.resetPort .ip else (s.resetPort .ip).cancelLoad l
      | none => s.resetPort .ip : State).view :=
    (State.view_restartFeed _).trans rfl
  rw [key]
  split
  · next l hl =>
    split
    · exact .refl
    · exact State.cancelLoad_evolves (s.resetPort .ip) hl
  · exact .refl

theorem stepDrop_evolves (k : Nat) : s.view.Evolves (stepDrop k s).1.view := by
  unfold stepDrop
  split
  · exact .refl
  · split
    · exact .refl
    · next i hi => exact .single (.leave s.view i (s.field.slotOfHour_some hi).1)

/-- STEP_OPEN is refused or opens a load in a FREE slot (R7, R24). -/
theorem stepOpen_view (k c : Nat) (ws : List Nat) :
    (stepOpen k c ws s).1 = s ∨ ∃ i x l, s.view.Opens (stepOpen k c ws s).1.view i x l := by
  unfold stepOpen
  split
  · exact .inl rfl
  · next fs hfs =>
    split
    · exact .inl rfl
    · split
      · exact .inl rfl
      · split
        · exact .inl rfl
        · next hk =>
          split
          · exact .inl rfl
          · next hl =>
            split
            · exact .inl rfl
            · next i hi =>
              exact .inr ⟨i,
                { s.field.slot i with
                  state := .loading, hour := some k, fieldSet := some fs, pins := 0, loaded := 0,
                  warnings := (cleanWarnings ws).1, cells := [] },
                { phase := .opened, slot := i, hour := k, fieldSet := fs, clamps := (cleanWarnings ws).2,
                  misplaced := 0 }, (s.field.lowestFree_some hi).1, Option.not_isSome_iff_eq_none.1 hl, ⟨rfl, rfl, rfl⟩,
                ⟨rfl, rfl, rfl, rfl⟩, Nat.le_of_not_lt hk, rfl, ⟨ws, rfl⟩, rfl⟩

theorem State.leaveDormant_evolves (m : Mode) : s.view.Evolves (s.leaveDormant m).view :=
  State.takeHead_evolves ((s.withTiming (s.timing.startedAt s.now)).withOutput
    { s.output with mode := m, lineup := s.output.lineup && decide (m ≠ .onAir) })

theorem outputMode_evolves (n : Nat) : s.view.Evolves (outputMode n s).1.view := by
  unfold outputMode
  split
  · exact .refl
  · next m _ =>
    dsimp only
    unfold State.changeMode
    split
    · exact .refl
    · split
      · exact .refl
      · split
        · exact s.leaveDormant_evolves m
        · exact .refl

theorem FieldView.Repins.evolves {v w : FieldView} (h : v.Repins w) : v.Evolves w :=
  h.lift id fun _ _ => .repin

theorem State.Plays.evolves {s t : State} (h : s.Plays t) : s.view.Evolves t.view := h.repins.evolves

end Sys2Proof.Machine
end

section
/-! PROOFS. What a step can do: a few operations that only play, around at most one act of its command. From it, the
invariant of the Field Store (O15) and the fixity of published steps (O16). -/

namespace Sys2Proof.Machine

variable (s : State)

/-! ### The requests that change other state, seen in the Field Store -/

theorem State.view_of_held {t : State} (field : t.field = s.field := by simp) (ingest : t.ingest = s.ingest := by simp)
    (ctl : t.ctl.held = s.ctl.held) (composer : t.composer = s.composer := by simp) : t.view = s.view := by
  rw [State.view_eq, State.view_eq, field, ingest, ctl, composer]

@[simp] theorem State.view_answerNext : s.answerNext.view = s.view := by
  refine s.view_of_held (ctl := ?_)
  unfold State.answerNext
  split
  · simp only [State.raise_ctl, State.withCtl_ctl, ShowController.held]
    rw [contextRefs_map (fun x => { x with prep := some .ready }) fun _ => rfl]
  · rfl

@[simp] theorem State.view_answerAwaitingNext : s.answerAwaitingNext.view = s.view := by
  unfold State.answerAwaitingNext
  split
  · exact s.view_answerNext
  · rfl

theorem Context.reclamp_refs (g : Option Grid) (c : CoastStore) (x : Context) : (x.reclamp g c).refs = x.refs := by
  unfold Context.reclamp
  dsimp only
  split
  · rfl
  · split <;> rfl

theorem Context.abandonCut_refs (x : Context) : x.abandonCut.refs = x.refs := by
  unfold Context.abandonCut; split <;> rfl

theorem Context.beginWaitingCut_refs (x : Context) : x.beginWaitingCut.refs = x.refs := by
  unfold Context.beginWaitingCut; split <;> rfl

/-- GRID_DEFINE changes at most the grid of the Field Store (R2, R3). -/
theorem gridDefine_view (c n : Nat) :
    ∃ g, (gridDefine c n s).1.view = { s.view with field := { s.view.field with grid := g } } := by
  have refused (o : OutcomeCode) : ∃ g, ((s, refuse o) : State × Answer).1.view
      = { s.view with field := { s.view.field with grid := g } } := ⟨s.field.grid, rfl⟩
  unfold gridDefine
  split
  · exact refused _
  · split
    · exact refused _
    · refine ⟨some { columns := c, rows := n }, (State.view_answerAwaitingNext _).trans ?_⟩
      rw [State.view_eq, State.view_eq]
      simp only [State.withCtl_ctl, ShowController.held_mapContexts _ _ (Context.reclamp_refs _ _)]
      rfl

theorem coastBegin_view : (coastBegin s).1.view = s.view :=
  (State.view_answerNext _).trans
    (s.view_of_held rfl rfl (ShowController.held_mapContexts _ _ Context.abandonCut_refs) rfl)

theorem coastEnd_view : (coastEnd s).1.view = s.view := by
  unfold coastEnd
  split
  · rfl
  · exact s.view_of_held rfl rfl (ShowController.held_mapContexts _ _ Context.beginWaitingCut_refs) rfl

theorem pageWrite_view (n : Nat) (f : PageFields) : (pageWrite n f s).1.view = s.view := by
  unfold pageWrite
  split
  · rfl
  · split <;> rfl

theorem held_setLayers (l : LayerSet) (is : List PageId) (c : ShowController) :
    (is.foldl (fun c i => c.setLayers l i) c).held = c.held := by
  induction is generalizing c with
  | nil => rfl
  | cons i is ih => exact (ih _).trans rfl

theorem pageLayers_view (m : BitVec 32) (l : LayerSet) : (pageLayers m l s).1.view = s.view :=
  s.view_of_held rfl rfl (held_setLayers l _ _) rfl

/-- REFERENCE_SET changes the rate, and then at most makes a frame start (R126, R133). -/
theorem State.setReference_plays (r : Rate) :
    ∃ x : FrameTiming, x.rate = r ∧ (s.withTiming x).Plays (s.setReference r) := by
  unfold State.setReference
  dsimp only
  split
  · exact ⟨_, rfl, .refl _⟩
  · exact ⟨_, rfl, (State.Plays.refl _).makeOverdue⟩

theorem referenceSet_evolves (c : Nat) : s.view.Evolves (referenceSet c s).1.view := by
  unfold referenceSet
  split
  · exact .refl
  · next r _ =>
    obtain ⟨x, -, h⟩ := s.setReference_plays r
    exact h.evolves

/-- What a change of the view can be, over one request. -/
inductive FieldView.Acts (v w : FieldView) : Prop
  | evolves (h : v.Evolves w)
  | regrid (g : Option Grid) (h : w = { v with field := { v.field with grid := g } })
  | opens {i : SlotId} {x : Slot} {l : OpenLoad} (h : v.Opens w i x l)

theorem FieldView.Acts.of_eq {v w : FieldView} (h : w = v) : v.Acts w := .evolves (h ▸ .refl)

theorem handle_view (p : Port) (r : Request) : s.view.Acts (handle p r s).1.view := by
  cases hr : ownsState r with
  | false => exact .evolves (handle_plays s p r hr).evolves
  | true =>
    cases r with
    | gridDefine c n =>
      obtain ⟨g, hg⟩ := gridDefine_view s c n
      exact .regrid g hg
    | stepOpen k c ws =>
      rcases stepOpen_view s k c ws with h | ⟨_, _, _, h⟩
      · exact .of_eq (congrArg State.view h)
      · exact .opens h
    | stepDrop k => exact .evolves (stepDrop_evolves s k)
    | cellBlock r c n v => exact .evolves (cellBlock_evolves s r c n v)
    | stepClose => exact .evolves (stepClose_evolves s)
    | stepCancel => exact .evolves (stepCancel_evolves s)
    | ingestReset => exact .evolves (ingestReset_evolves s)
    | outputMode m => exact .evolves (outputMode_evolves s m)
    | referenceSet c => exact .evolves (referenceSet_evolves s c)
    | coastBegin => exact .of_eq (coastBegin_view s)
    | coastEnd => exact .of_eq (coastEnd_view s)
    | pageWrite n f => exact .of_eq (pageWrite_view s n f)
    | pageLayers m l => exact .of_eq (pageLayers_view s m l)
    | coastLineNew | coastLineContinue | areaMapBegin | areaMapRow | bandsWrite =>
      exact .of_eq (State.view_congr (by simp [handle]) (by simp [handle]) (by simp [handle]) (by simp [handle]))
    | _ => cases hr

/-! ### What a step can do -/

/-- An operation that plays and moves no pin: the clock, the lines, the ports, the queue of commands, the Feed
Monitor. -/
structure State.Passes (s t : State) : Prop where
  plays : s.Plays t
  view : t.view = s.view

theorem State.Passes.refl (s : State) : s.Passes s := ⟨.refl s, rfl⟩

theorem State.Passes.trans {s t u : State} (h : s.Passes t) (k : t.Passes u) : s.Passes u :=
  ⟨h.plays.trans k.plays, k.view.trans h.view⟩

/-- The act of a step: a request handed to its block, the end of a drain, a waking from DORMANT, a restart, or
something that only plays. -/
inductive State.Act : State → State → Prop
  | plays {s t : State} (h : s.Plays t) : Act s t
  | request (p : Port) (r : Request) (s : State) : Act s (handle p r s).1
  | drain (s : State) (b : CellBlock) (h : s.ingest.inFlight = some b) : Act s (s.completeDrain b)
  | wake (s : State) (h : s.output.mode = .dormant) : Act s s.wakingPulse
  | restart (s : State) (c : ResetCause) : Act s (s.restart c)

/-- A step: an act between two operations that move no pin. -/
def State.Acts (s t : State) : Prop := ∃ a b, s.Passes a ∧ a.Act b ∧ b.Passes t

theorem State.Plays.acts {s t : State} (h : s.Plays t) : s.Acts t := ⟨s, t, .refl s, .plays h, .refl t⟩

theorem State.Acts.refl (s : State) : s.Acts s := (State.Plays.refl s).acts

theorem State.Act.acts {s t : State} (h : s.Act t) : s.Acts t := ⟨s, t, .refl s, h, .refl t⟩

theorem State.Passes.acts {s t u : State} (h : s.Passes t) (k : t.Acts u) : s.Acts u := by
  obtain ⟨a, b, ha, hab, hb⟩ := k
  exact ⟨a, b, h.trans ha, hab, hb⟩

theorem State.Acts.passes {s t u : State} (h : s.Acts t) (k : t.Passes u) : s.Acts u := by
  obtain ⟨a, b, ha, hab, hb⟩ := h
  exact ⟨a, b, ha, hab, hb.trans k⟩

theorem State.at_passes (t : Nat) : s.Passes (s.at t) := ⟨s.at_plays t, rfl⟩
theorem State.modifyPort_passes (p : Port) (g : PortState → PortState) : s.Passes (s.modifyPort p g) :=
  ⟨s.modifyPort_plays p g, rfl⟩
theorem State.withPending_passes (cs : List Instr) : s.Passes (s.withPending cs) := ⟨.of_still, rfl⟩
theorem respond_passes (p : Port) (r : State × Answer) : r.1.Passes (respond p r) := State.modifyPort_passes _ _ _
theorem State.goodIngestFrame_passes : s.Passes s.goodIngestFrame := ⟨s.goodIngestFrame_plays, State.view_congr⟩

theorem State.at_self : s.at s.now = s := by simp [State.at]

/-- A frozen command either is ignored or has its effect (R185). -/
theorem unlessFrozen_next {s t u : State} (h : unlessFrozen s t = .next u) : u = s ∨ u = t := by
  unfold unlessFrozen at h
  split at h
  · cases h; exact .inl rfl
  · cases h; exact .inr rfl

theorem unlessFrozen_acts {s t u : State} (h : s.Acts t) (hu : unlessFrozen s t = .next u) : s.Acts u := by
  rcases unlessFrozen_next hu with rfl | rfl
  · exact .refl u
  · exact h

theorem unlessFrozen_plays {s t u : State} (h : s.Plays t) (hu : unlessFrozen s t = .next u) : s.Plays u := by
  rcases unlessFrozen_next hu with rfl | rfl
  · exact .refl u
  · exact h

/-- A request's command takes the request at its port, at the present or at its own time (R167). -/
theorem exec_request {c : Instr} {r : Request} (h : c.request? = some r) :
    ∃ p n, exec c s = unlessFrozen s (respond p (handle p r (s.at n))) := by
  cases c with
  | referenceSet _ n | timingRead n | outputMode _ n | playoutReset n =>
    cases h
    exact ⟨_, n, rfl⟩
  | _ =>
    cases h
    all_goals exact ⟨_, s.now, by rw [State.at_self]; rfl⟩

theorem State.takeFrame_act (p : Port) (f : LinkFrame) : s.Act (takeFrame p f s).1 := by
  unfold takeFrame
  split
  · exact .plays (.refl s)
  · split
    · split
      · exact .plays (.refl s)
      · exact .request p _ s
    · exact .plays (.refl s)

theorem State.serve_acts (p : Port) (f : LinkFrame) : s.Acts (s.serve p f) :=
  (s.takeFrame_act p f).acts.passes ((respond_passes p _).trans (State.modifyPort_passes _ _ fun x =>
    { x with serving := some { kind := replyKind f.kind, tag := f.tag, reply := replyOf p (takeFrame p f s) } }))

theorem State.badCheck_plays (p : Port) : s.Plays (s.badCheck p) := by
  unfold State.badCheck
  dsimp only
  split
  · exact (s.modifyPort_plays _ _).trans (State.erroredRecord_plays _)
  · exact s.modifyPort_plays _ _

/-- A frame that passed its check: taken at once, or buffered (R166). -/
def State.takeOrBuffer (t : State) (p : Port) (f : LinkFrame) : State :=
  if (t.ports.get p).serving.isNone ∧ (t.ports.get p).buffer = [] then t.serve p f
  else t.modifyPort p fun y => { y with buffer := y.buffer ++ [f] }

theorem State.goodFrame_eq (p : Port) (f : LinkFrame) :
    s.goodFrame p f = (if p = .ip then s.goodIngestFrame else s).takeOrBuffer p f := rfl

theorem State.takeOrBuffer_acts (p : Port) (f : LinkFrame) : s.Acts (s.takeOrBuffer p f) := by
  unfold State.takeOrBuffer
  split
  · exact s.serve_acts p f
  · exact (s.modifyPort_plays _ _).acts

theorem State.goodFrame_acts (p : Port) (f : LinkFrame) : s.Acts (s.goodFrame p f) := by
  rw [State.goodFrame_eq]
  split
  · exact s.goodIngestFrame_passes.acts (State.takeOrBuffer_acts _ p f)
  · exact s.takeOrBuffer_acts p f

theorem State.receive_acts (p : Port) (f : LinkFrame) : s.Acts (s.receive p f) := by
  have hunt := s.modifyPort_passes p fun x => { x with receiver := .hunting }
  unfold State.receive
  dsimp only
  split
  · exact (hunt.plays.trans (State.badCheck_plays _ p)).acts
  · split
    · exact (hunt.plays.trans (State.modifyPort_plays _ _ _)).acts
    · split
      · exact hunt.acts (State.goodFrame_acts _ p f)
      · exact (hunt.plays.trans (State.badCheck_plays _ p)).acts

theorem State.endReply_acts (p : Port) : s.Acts (s.endReply p) := by
  unfold State.endReply
  dsimp only
  split
  · exact .refl s
  · exact (s.modifyPort_plays _ _).acts
  · next f rest _ _ => exact (s.modifyPort_passes p fun y => { y with buffer := rest }).acts (State.serve_acts _ p f)

theorem State.abandonFrame_plays (p : Port) (os : List Octet) : s.Plays (s.abandonFrame p os) := by
  unfold State.abandonFrame
  split
  · exact (s.modifyPort_plays _ _).trans (State.badCheck_plays _ p)
  · exact .refl s

/-- The events that restart nothing, carry no request, end no drain and wake nothing. -/
def eventPlays : Instr → Bool
  | .powerOn _ | .resetLineRelease _ | .linkFrameReceived _ _ _ | .replySent _ _ | .drainCompletion | .frefPulse _ =>
    false
  | _ => true

theorem exec_event_plays {c : Instr} {t : State} (hc : c.request? = none) (he : eventPlays c = true)
    (h : exec c s = .next t) : s.Plays t := by
  cases c with
  | powerOn | resetLineRelease | linkFrameReceived | replySent | drainCompletion | frefPulse => cases he
  | resetLineAssertion => exact unlessFrozen_plays .of_still h
  | framingError p len =>
    refine unlessFrozen_plays ?_ h
    split
    · exact s.abandonFrame_plays p _
    · exact .refl s
  | frameGapTimeout p => exact unlessFrozen_plays (s.abandonFrame_plays p _) h
  | windowEnd =>
    refine unlessFrozen_plays ?_ h
    split
    · exact (s.passSeconds_plays _).trans (State.endWindow_plays _)
    · exact .refl s
  | staleTimerExpiry =>
    refine unlessFrozen_plays ?_ h
    split
    · exact (s.passSeconds_plays _).trans (State.expireStale_plays _)
    · exact .refl s
  | windowCutCompletion place => exact unlessFrozen_plays (s.completeCut_plays place) h
  | internalFrameStart =>
    refine unlessFrozen_plays ?_ h
    split
    · next d _ => exact s.internalFrameStart_plays d
    · exact .refl s
  | acquiringSilenceExpiry =>
    refine unlessFrozen_plays ?_ h
    split
    · exact (s.at_plays s.silenceTime).withTiming.raise
    · exact .refl s
  | refLost =>
    refine unlessFrozen_plays ?_ h
    split
    · exact (s.at_plays s.silenceTime).withTiming.raise.frameStart
    · exact .refl s
  | holdoverEnd =>
    refine unlessFrozen_plays ?_ h
    split
    · next d _ =>
      split
      · exact s.internalFrameStart_plays d
      · exact .refl s
    · exact .refl s
  | lateFrames n | detailRecovered n =>
    refine unlessFrozen_plays ?_ h
    split
    · exact s.nextFrameStart_plays n
    · exact .refl s
  | compositionCompletion =>
    refine unlessFrozen_plays ?_ h
    split
    · next x hx => exact s.completeComposition_plays hx
    · exact .refl s
  | safeLineChange b =>
    cases h
    split
    · exact .of_still
    · exact (State.Plays.of_still (t := { s with safeLine := b })).trans (State.safeChanged_plays _ _)
  | startOctet p => exact unlessFrozen_plays (s.modifyPort_plays _ _) h
  | _ => cases hc

/-- What a command can do. -/
theorem exec_acts {c : Instr} {t : State} (h : exec c s = .next t) : s.Acts t := by
  cases hr : c.request? with
  | some r =>
    obtain ⟨p, n, hp⟩ := exec_request s hr
    rw [hp] at h
    exact unlessFrozen_acts ((s.at_passes n).acts ((State.Act.request p r _).acts.passes (respond_passes p _))) h
  | none =>
    cases c with
    | powerOn n =>
      cases h
      split
      · exact (s.at_plays n |>.trans .of_still).acts
      · exact (s.at_passes n).acts (State.Act.restart _ _).acts
    | resetLineRelease n =>
      cases h
      split
      · exact (s.at_passes n).acts (State.Act.restart _ _).acts
      · exact .refl s
    | linkFrameReceived p f n => exact unlessFrozen_acts ((s.at_passes n).acts (State.receive_acts _ p f)) h
    | replySent p n => exact unlessFrozen_acts ((s.at_passes n).acts (State.endReply_acts _ p)) h
    | drainCompletion =>
      refine unlessFrozen_acts ?_ h
      split
      · next b hb => exact (State.Act.drain s b hb).acts
      · exact .refl s
    | frefPulse n =>
      refine unlessFrozen_acts ?_ h
      split
      · next hm => exact (s.at_passes n).acts (State.Act.wake (s.at n) hm).acts
      · exact ((s.at_plays n).trans (State.pulse_plays _)).acts
    | _ => exact (exec_event_plays s hr rfl h).acts

/-- What a step can do. -/
theorem step_acts {t : State} (h : step s = .next t) : s.Acts t := by
  cases hp : s.pending with
  | nil =>
    rw [step_nil s hp] at h
    cases h
    exact s.tick_plays.acts
  | cons c rest =>
    rw [step_cons s hp] at h
    exact (s.withPending_passes rest).acts (exec_acts _ h)

/-- What a step can do to the Field Store and its references. -/
inductive FieldView.Steps (v w : FieldView) : Prop
  | acts (h : v.Acts w)
  | restart (h : w = { field := FieldStore.initial, load := none, refs := 0 })

theorem State.Act.view {s t : State} (h : s.Act t) : s.view.Steps t.view := by
  cases h with
  | plays h => exact .acts (.evolves h.evolves)
  | request p r => exact .acts (handle_view s p r)
  | @drain _ b _ => exact .acts (.evolves (s.completeDrain_evolves b))
  | wake =>
    exact .acts (.evolves (State.leaveDormant_evolves (s.withTiming { s.timing with lastPulse := some s.now }) .standby))
  | restart c => exact .restart rfl

theorem step_view {t : State} (h : step s = .next t) : s.view.Steps t.view := by
  obtain ⟨a, b, ha, hab, hb⟩ := step_acts s h
  rw [← ha.view, hb.view]
  exact hab.view

/-! ### O15 and O16 -/

theorem FieldView.Sound.steps {v w : FieldView} (hv : v.Sound) (h : v.Steps w) : w.Sound := by
  rcases h with (h | ⟨g, rfl⟩ | h) | rfl
  · exact hv.evolves h
  · exact hv.regrid g
  · exact hv.opens h
  · exact .initial

/-- A published slot keeps its contents through a step, or is FREE after it (R8). -/
theorem FieldView.Sound.fixed_steps {v w : FieldView} (hv : v.Sound) (h : v.Steps w) {i : SlotId}
    (hi : (v.field.slot i).state = .ready ∨ (v.field.slot i).state = .retiring) :
    (v.field.slot i).Fixed (w.field.slot i) := by
  rcases h with (h | ⟨g, rfl⟩ | @⟨j, x, l, ⟨hfree, -, -, -, -, -, -, rfl⟩⟩) | rfl
  · exact hv.fixed_evolves h i
  · exact .refl _
  · have hne : i ≠ j := by rintro rfl; simp [hfree] at hi
    simp only [FieldStore.slot_setSlot_ne _ hne]
    exact .refl _
  · exact .of_freed _ (by rw [FieldStore.slot_initial]; rfl)

/-- Settles O15: every act of a step is a chain of takes, releases, withdrawals and changes of the open load's slot,
each of which keeps the invariant. -/
theorem fieldStoreStaysSound : Obligations.FieldStoreStaysSound := by
  intro s t hs h
  rw [State.fieldSound_iff_view] at hs ⊢
  exact hs.steps (step_view s h)

/-- Settles O16. -/
theorem publishedStepsAreFixed : Obligations.PublishedStepsAreFixed := by
  intro s t i hs h x y hx
  exact ((s.fieldSound_iff_view.1 hs).fixed_steps (step_view s h) hx).published hx

end Sys2Proof.Machine
end

section
/-! PROOFS. The requests of the Field Store: GRID_DEFINE (O22), STEP_DROP and publication (O23), STEP_OPEN (O24); and
what takes, releases and moves do to the pins (O42). -/

namespace Sys2Proof.Machine

/-! ### Takes, releases and moves (R17 to R19) -/

/-- Settles O42. -/
theorem pinsFollowTakesAndReleases : Obligations.PinsFollowTakesAndReleases := by
  intro f added removed count
  refine ⟨f.slot_takeAll added, fun h j => ?_, by simp, by simp, by simp, by simp⟩
  have hj : count removed j ≤ (f.slot j).pins + count added j := h j
  have hmove := f.slot_move added removed h j
  dsimp only
  rcases Slot.released_cases { f.slot j with pins := (f.slot j).pins + refCount added j } (refCount removed j)
    with ⟨hs, hn, hpos, he⟩ | ⟨hnot, he⟩
  · have hzero : (f.slot j).pins + count added j - count removed j = 0 := Nat.sub_eq_zero_of_le hn.le
    rw [hmove, he, if_pos ⟨hs, hpos, hzero⟩]
    rfl
  · rw [hmove, he, if_neg fun ⟨hs, hpos, hn⟩ => hnot ⟨hs, le_antisymm (Nat.sub_eq_zero_iff_le.1 hn) hj, hpos⟩]
    rfl

/-! ### Requests answered -/

/-- A request's command answers the state and reply of its meaning while the RESET line is released. -/
theorem unlessFrozen_answered {s t : State} {p : Port} {r : State × Answer} {o : OutcomeCode} {fields : List Field}
    (h : s.resetLine = false) (hr : r = (t, { outcome := o, fields := fields })) :
    unlessFrozen s (respond p r) = .next (t.answered p o fields) := by
  rw [unlessFrozen_eq s h, hr]; rfl

/-! ### STEP_OPEN (R24, R25) -/

theorem fieldSetOfCode_none {c : Nat} (h : 2 < c) : fieldSetOfCode c = none := by
  match c, h with
  | n + 3, _ => rfl

theorem fieldSetOfCode_some {c : Nat} (h : c ≤ 2) : ∃ fs, fieldSetOfCode c = some fs := by
  match c, h with
  | 0, _ => exact ⟨_, rfl⟩
  | 1, _ => exact ⟨_, rfl⟩
  | 2, _ => exact ⟨_, rfl⟩

/-- The lowest-numbered FREE slot is the one chosen (R7). -/
theorem FieldStore.lowestFree_eq {f : FieldStore} {i : SlotId} (hi : (f.slot i).state = .free)
    (hlow : ∀ j : SlotId, j < i → (f.slot j).state ≠ .free) : f.lowestFree = some i := by
  cases h : f.lowestFree with
  | none => exact absurd hi (f.lowestFree_none h i)
  | some j =>
    obtain ⟨hj, hjlow⟩ := f.lowestFree_some h
    have hij : ¬ i < j := fun hlt => hjlow i hlt hi
    have hji : ¬ j < i := fun hlt => hlow j hlt hj
    rw [le_antisymm (not_lt.1 hij) (not_lt.1 hji)]

theorem FieldStore.lowestFree_eq_none {f : FieldStore} (h : ∀ i, (f.slot i).state ≠ .free) : f.lowestFree = none := by
  cases hl : f.lowestFree with
  | none => rfl
  | some i => exact absurd (f.lowestFree_some hl).1 (h i)

theorem listField_numField (ns : List Nat) :
    listField numField ns = .octet ns.length :: ns.map fun n => .num (n : Nat) := by
  rw [listField, List.map_eq_flatMap]
  rfl

section StepOpen

variable {h code : Nat} {ws : List Nat} {s : State}

theorem stepOpen_badLength (hbad : 2 < code ∨ 16 < ws.length) : stepOpen h code ws s = (s, refuse .badLength) := by
  unfold stepOpen
  cases hc : fieldSetOfCode code with
  | none => rfl
  | some fs =>
    have hws : 16 < ws.length := hbad.resolve_left fun hlt => by simp [fieldSetOfCode_none hlt] at hc
    exact if_pos hws

/-- With a readable payload the checks are those of the grid, the hour, the open load and the slot, in that order
(R24). -/
theorem stepOpen_readable {fs : FieldSet} (hfs : fieldSetOfCode code = some fs) (hws : ws.length ≤ 16) :
    stepOpen h code ws s =
      if s.field.grid.isNone then (s, refuse .noGrid)
      else if 240 < h then (s, refuse .badHour)
      else if s.ingest.load.isSome then (s, refuse .loadOpen)
      else match s.field.lowestFree with
        | none => (s, refuse .noSlot)
        | some i =>
          ((s.withField (s.field.setSlot i { s.field.slot i with
              state := .loading, hour := some h, fieldSet := some fs, pins := 0, loaded := 0,
              warnings := (cleanWarnings ws).1, cells := [] })).withIngest { s.ingest with
                load := some { phase := .opened, slot := i, hour := h, fieldSet := fs,
                               clamps := (cleanWarnings ws).2, misplaced := 0 } },
            { outcome := doneOrClamped (0 < (cleanWarnings ws).2),
              fields := numField i ++ listField numField (cleanWarnings ws).1 }) := by
  unfold stepOpen
  rw [hfs]
  exact if_neg (Nat.not_lt.2 hws)

end StepOpen

/-- Settles O24. -/
theorem stepOpenOpensLoad : Obligations.StepOpenOpensLoad := by
  refine ⟨fun h code ws s hr => ⟨fun hbad => unlessFrozen_answered hr (stepOpen_badLength hbad),
    fun hcode hws => ?_⟩, fun ws => ⟨cleanWarnings_kept ws, cleanWarnings_clamps ws⟩⟩
  obtain ⟨fs, hfs⟩ := fieldSetOfCode_some hcode
  have read := stepOpen_readable (h := h) (s := s) hfs hws
  refine ⟨fun hg => ?_, fun hg => ?_⟩
  · exact unlessFrozen_answered hr (by rw [read, if_pos (by simp [hg])]; rfl)
  · rw [if_neg (by simpa using hg)] at read
    refine ⟨fun hh => unlessFrozen_answered hr (by rw [read, if_pos hh]; rfl), fun hh => ?_⟩
    rw [if_neg (Nat.not_lt.2 hh)] at read
    refine ⟨fun hl => unlessFrozen_answered hr (by rw [read, if_pos (Option.isSome_iff_ne_none.2 hl)]; rfl),
      fun hl => ?_⟩
    rw [if_neg (by simp [hl])] at read
    refine ⟨fun hfree => unlessFrozen_answered hr (by rw [read, FieldStore.lowestFree_eq_none hfree]; rfl),
      fun i fs' hfs' hi hlow => ?_⟩
    obtain rfl : fs = fs' := Option.some.inj (hfs.symm.trans hfs')
    rw [FieldStore.lowestFree_eq hi hlow] at read
    refine unlessFrozen_answered hr (read.trans ?_)
    rw [listField_numField]
    simp only [doneOrClamped, decide_eq_true_eq]
    rfl

/-! ### GRID_DEFINE (R2, R3) -/

theorem slots_any_iff (f : FieldStore) :
    (f.slots.any fun x => decide (x.state ≠ .free)) = true ↔ ∃ i, (f.slot i).state ≠ .free := by
  rw [Vector.any_eq_true]
  simp only [decide_eq_true_eq, FieldStore.slot, Fin.getElem_fin]
  exact ⟨fun ⟨i, hi, h⟩ => ⟨⟨i, hi⟩, h⟩, fun ⟨i, h⟩ => ⟨i.1, i.2, h⟩⟩

/-- A context cut anew where its window changes: its Cut List is emptied, and its cut begins at once unless it waits
or the store is not VALID (R3, R61). -/
def Context.recut (g : Grid) (c : CoastStore) (x : Context) : Context :=
  if clampWindow (some g) x.copy = x.window then x
  else { x with
    window := clampWindow (some g) x.copy
    coast := { cut := if x.coast.cut = .awaiting ∨ c.state ≠ .valid then .awaiting else .cutting,
               pieces := [], overflow := 0 } }

theorem Context.reclamp_eq_recut {x : Context} {c : CoastStore} {g : Option Grid} (hx : x.Sound g c) (g' : Grid) :
    x.reclamp (some g') c = x.recut g' c := by
  unfold Context.reclamp Context.recut
  dsimp only
  split
  · rfl
  · by_cases hcut : x.coast.cut = .awaiting
    · obtain ⟨hp, ho⟩ := hx.pending (by simp [hcut])
      rw [if_pos hcut, if_pos (.inl hcut), ← hcut, ← hp, ← ho]
    · rw [if_neg hcut]
      by_cases hv : c.state = .valid <;> simp [requestedCut, hcut, hv]

theorem Context.recut_prep (g : Grid) (c : CoastStore) (x : Context) : (x.recut g c).prep = x.prep := by
  unfold Context.recut; split <;> rfl

/-- A cut in flight runs on or begins again. -/
theorem Context.recut_cutting {x : Context} {c : CoastStore} {g : Option Grid} (hx : x.Sound g c) (g' : Grid)
    (h : x.coast.cut = .cutting) : (x.recut g' c).coast.cut = .cutting := by
  unfold Context.recut
  split
  · exact h
  · simp [h, hx.cutting h]

/-- A NEXT that is PREPARING only while its cut is in flight has no answer to make (R104). -/
theorem State.answerAwaitingNext_eq {s : State}
    (h : ∀ x, s.ctl.next = some x → x.prep = some .preparing → x.coast.cut = .cutting) : s.answerAwaitingNext = s := by
  unfold State.answerAwaitingNext State.answerNext
  split
  · next hidle =>
    refine if_neg fun hprep => ?_
    obtain ⟨x, hx, hnot⟩ := (Option.any_eq_true _ _).1 hidle
    obtain ⟨y, hy, hpy⟩ := (Option.any_eq_true _ _).1 hprep
    obtain rfl : x = y := Option.some.inj (hx.symm.trans hy)
    simp [Context.cutting, h x hx (by simpa using hpy)] at hnot
  · rfl

theorem gridDefine_taken {c r : Nat} {s : State} (hfree : ∀ i, (s.field.slot i).state = .free)
    (hdim : 8 ≤ c ∧ c ≤ 96 ∧ 8 ≤ r ∧ r ≤ 64) (hshow : s.ShowSound) :
    gridDefine c r s =
      ({ s with
          field := { s.field with grid := some { columns := c, rows := r } }
          areaMap := s.areaMap.filter fun m => m.columns = c && m.rows = r
          ctl := s.ctl.mapContexts (Context.recut { columns := c, rows := r } s.coast)
          eval := { s.eval with glyphs := [] } },
        { outcome := .done, fields := numField c ++ numField r }) := by
  have hmap : s.ctl.mapContexts (Context.reclamp (some { columns := c, rows := r }) s.coast)
      = s.ctl.mapContexts (Context.recut { columns := c, rows := r } s.coast) := by
    simp only [ShowController.mapContexts, ShowController.mk.injEq, true_and, and_true]
    refine ⟨Option.map_congr fun x hx => Context.reclamp_eq_recut (hshow.next x hx).1 _,
      Option.map_congr fun x hx => Context.reclamp_eq_recut (hshow.live x hx).1 _,
      List.map_congr_left fun e he => Option.map_congr fun x hx =>
        Context.reclamp_eq_recut (hshow.stacked x (hx ▸ he)).1 _⟩
  unfold gridDefine
  rw [if_neg (by rw [slots_any_iff]; simpa using hfree), if_neg (by omega)]
  simp only [State.withField, State.withCtl, hmap]
  rw [State.answerAwaitingNext_eq]
  · rfl
  · intro x hx hprep
    obtain ⟨y, hy, rfl⟩ := Option.map_eq_some_iff.1 hx
    obtain ⟨hsound, -, -, -, hcut⟩ := hshow.next y hy
    exact Context.recut_cutting hsound _ (hcut (by rw [← hprep, Context.recut_prep]))

/-- Settles O22. -/
theorem gridDefineSetsGrid : Obligations.GridDefineSetsGrid := by
  refine fun c r s hr => ⟨fun huse => unlessFrozen_answered hr ?_, fun hfree hdim => unlessFrozen_answered hr ?_,
    fun hfree hdim hshow => ?_⟩
  · unfold gridDefine
    rw [if_pos ((slots_any_iff _).2 huse)]; rfl
  · unfold gridDefine
    rw [if_neg (by rw [slots_any_iff]; simpa using hfree), if_pos (by omega)]; rfl
  · intro g recut
    refine unlessFrozen_answered hr ((gridDefine_taken hfree hdim hshow).trans ?_)
    have hmap : (s.areaMap.filter fun m => m.columns = c && m.rows = r) = (match s.areaMap with
        | some m => if m.columns = c ∧ m.rows = r then some m else none
        | none => none) := by
      cases s.areaMap with
      | none => rfl
      | some m => simp [Option.filter]
    rw [hmap]
    rfl

/-! ### STEP_DROP and publication (R11 to R13) -/

/-- The slot of an hour in the Timeline, where one holds it (R10). -/
theorem FieldView.Sound.slotOfHour_eq {v : FieldView} (hv : v.Sound) {i : SlotId} {h : Nat}
    (hi : (v.field.slot i).state = .ready) (hh : (v.field.slot i).hour = some h) : v.field.slotOfHour h = some i := by
  have hm := (hv.ready i).1 hi
  have hour : v.field.hourOf i = h := by simp [FieldStore.hourOf, hh]
  cases hs : v.field.slotOfHour h with
  | none => exact absurd hour (v.field.slotOfHour_none hs i hm)
  | some j =>
    obtain ⟨hj, hjh⟩ := v.field.slotOfHour_some hs
    rw [hv.eq_of_hourOf hj hm (hjh.trans hour.symm)]

/-- A listed slot of an hour is READY and holds it. -/
theorem FieldView.Sound.ready_of_hourOf {v : FieldView} (hv : v.Sound) {i : SlotId} {h : Nat}
    (hi : i ∈ v.field.timeline) (hh : v.field.hourOf i = h) :
    (v.field.slot i).state = .ready ∧ (v.field.slot i).hour = some h :=
  ⟨(hv.ready i).2 hi, hh ▸ hv.hour_of_mem hi⟩

theorem FieldView.Sound.clearHour_slot {v : FieldView} (hv : v.Sound) (h : Nat) (j : SlotId) :
    (v.field.clearHour h).slot j =
      if (v.field.slot j).state = .ready ∧ (v.field.slot j).hour = some h then
        (if (v.field.slot j).pins = 0 then (v.field.slot j).freed else { v.field.slot j with state := .retiring })
      else v.field.slot j := by
  split
  · next hj =>
    rw [FieldStore.clearHour, hv.slotOfHour_eq hj.1 hj.2]
    simp [FieldStore.slot_leaveTimeline]
  · next hj =>
    rcases v.field.clearHour_cases h with ⟨i, hi, hh, he⟩ | ⟨-, he⟩
    · have : j ≠ i := fun e => hj (e ▸ hv.ready_of_hourOf hi hh)
      simp [he, FieldStore.slot_leaveTimeline, this]
    · rw [he]

theorem FieldView.Sound.mem_clearHour {v : FieldView} (hv : v.Sound) (h : Nat) (j : SlotId) :
    j ∈ (v.field.clearHour h).timeline ↔ j ∈ v.field.timeline ∧ v.field.hourOf j ≠ h := by
  constructor
  · intro hj
    obtain ⟨hm, hne, -⟩ := (hv.clearHour h).2 j hj
    exact ⟨hm, hne⟩
  · rintro ⟨hm, hne⟩
    rcases v.field.clearHour_cases h with ⟨i, -, hh, he⟩ | ⟨-, he⟩
    · have : j ≠ i := fun e => hne (e ▸ hh)
      simp [he, hm, this]
    · rwa [he]

@[simp] theorem FieldStore.grid_clearHour (f : FieldStore) (h : Nat) : (f.clearHour h).grid = f.grid := by
  unfold FieldStore.clearHour; split <;> simp

@[simp] theorem FieldStore.grid_enter (f : FieldStore) (i : SlotId) : (f.enter i).grid = f.grid := rfl

/-- A publication, slot by slot and in the Timeline (R11, R12). -/
theorem FieldView.Sound.publish_effect {v : FieldView} (hv : v.Sound) {l : OpenLoad} (hl : v.load = some l) :
    (v.field.publish l.slot).grid = v.field.grid
    ∧ (∀ j, (v.field.publish l.slot).slot j = if j = l.slot then { v.field.slot l.slot with
          state := .ready, generation := ((v.field.slot l.slot).generation + 1) % 256 }
        else (v.field.clearHour l.hour).slot j)
    ∧ ∀ j, j ∈ (v.field.publish l.slot).timeline
        ↔ j = l.slot ∨ (j ∈ v.field.timeline ∧ (v.field.slot j).hour ≠ some l.hour) := by
  have hh := (hv.load l hl).1
  have hmine : v.field.hourOf l.slot = l.hour := by simp [FieldStore.hourOf, hh]
  have hout : l.slot ∉ v.field.timeline := fun hm => by simpa [(hv.ready _).2 hm] using hv.loading_of_load hl
  have hsame : (v.field.clearHour l.hour).slot l.slot = v.field.slot l.slot :=
    FieldStore.clearHour_slot_of_not_mem hout _
  rw [FieldStore.publish_eq, hmine]
  refine ⟨by simp, fun j => ?_, fun j => ?_⟩
  · rw [FieldStore.slot_enter, hsame]
  · have hentered : (v.field.clearHour l.hour).hourOf l.slot = l.hour := by simp [FieldStore.hourOf, hsame, hh]
    rw [FieldStore.mem_enter, hentered]
    refine or_congr_right ⟨fun ⟨hm, _⟩ => ?_, fun ⟨hm, hne⟩ => ?_⟩
    · obtain ⟨hm, hne⟩ := (hv.mem_clearHour l.hour j).1 hm
      exact ⟨hm, fun he => hne (by simp [FieldStore.hourOf, he])⟩
    · have hj : v.field.hourOf j ≠ l.hour := fun he => hne (hv.ready_of_hourOf hm he).2
      have hslot : (v.field.clearHour l.hour).slot j = v.field.slot j := by
        rw [hv.clearHour_slot, if_neg fun hc => hne hc.2]
      exact ⟨(hv.mem_clearHour l.hour j).2 ⟨hm, hj⟩, by simpa [FieldStore.hourOf, hslot] using hj⟩

/-- The reply and the state of a STEP_DROP that finds its hour (R13). -/
theorem stepDrop_found {h : Nat} {s : State} (hs : s.FieldSound) {i : SlotId} (hi : (s.field.slot i).state = .ready)
    (hh : (s.field.slot i).hour = some h) :
    stepDrop h s = (s.withField (s.field.leaveTimeline i),
      { outcome := .done,
        fields := numField i ++ codeField (slotStateCode ((s.field.leaveTimeline i).slot i).state) }) := by
  have hv := s.fieldSound_iff_view.1 hs
  have hle : ¬ 240 < h := by
    obtain ⟨⟨k, hk, hle⟩, -⟩ := hs.hour i (by simp [hi])
    have : k = h := Option.some.inj (hk.symm.trans hh)
    omega
  unfold stepDrop
  rw [if_neg hle, show s.field.slotOfHour h = some i from hv.slotOfHour_eq hi hh]

/-- Settles O23. -/
theorem timelineTakesAndDropsHours : Obligations.TimelineTakesAndDropsHours := by
  refine ⟨fun h s hr => ⟨fun hbad => unlessFrozen_answered hr (if_pos hbad), fun hle hs hnone => ?_,
    fun i hs hi hh => ⟨fun hp => ?_, fun hp => ?_⟩⟩, fun s l hs hl => ?_⟩
  · refine unlessFrozen_answered hr ?_
    have : s.field.slotOfHour h = none := by
      cases hf : s.field.slotOfHour h with
      | none => rfl
      | some i =>
        obtain ⟨hm, hh⟩ := s.field.slotOfHour_some hf
        obtain ⟨hready, hhour⟩ := (s.fieldSound_iff_view.1 hs).ready_of_hourOf hm hh
        exact absurd hhour (hnone i hready)
    unfold stepDrop
    rw [if_neg (Nat.not_lt.2 hle), this]
    rfl
  · refine unlessFrozen_answered hr ((stepDrop_found hs hi hh).trans ?_)
    have hst : ((s.field.leaveTimeline i).slot i).state = .free := by simp [FieldStore.slot_leaveTimeline, hp]
    rw [hst]
    simp only [FieldStore.leaveTimeline, hp, if_true]
    rfl
  · have hp : (s.field.slot i).pins ≠ 0 := Nat.ne_of_gt hp
    refine unlessFrozen_answered hr ((stepDrop_found hs hi hh).trans ?_)
    have hst : ((s.field.leaveTimeline i).slot i).state = .retiring := by simp [FieldStore.slot_leaveTimeline, hp]
    rw [hst]
    simp only [FieldStore.leaveTimeline, hp, if_false]
    rfl
  · have hv := s.fieldSound_iff_view.1 hs
    obtain ⟨hgrid, hslot, hmem⟩ := hv.publish_effect hl
    have hloading := hv.loading_of_load hl
    have hclear := hv.clearHour_slot l.hour
    refine ⟨hgrid, (hslot l.slot).trans (if_pos rfl), fun j hj hjh => ?_, fun j hne hj => ?_,
      (hv.publish hl).ascending, hmem⟩
    · have hne : j ≠ l.slot := by
        rintro rfl
        exact absurd (hj.symm.trans hloading) (by decide)
      exact (hslot j).trans ((if_neg hne).trans ((hclear j).trans (if_pos ⟨hj, hjh⟩)))
    · exact (hslot j).trans ((if_neg hne).trans ((hclear j).trans (if_neg hj)))

end Sys2Proof.Machine
end

section
/-! PROOFS. How an invariant of a step is proved; what every step keeps of the open load, its queue and the Feed
Monitor (O17). -/

namespace Sys2Proof.Machine

variable (s : State)

/-! ### Invariants of a step -/

/-- A predicate that the operations of the show keep, that each owning request, the end of a drain and a waking keep,
and that a restart establishes, is kept by every step. -/
theorem step_keeps {P : State → Prop} (plays : ∀ {s t : State}, s.Plays t → P s → P t)
    (request : ∀ (p : Port) (r : Request) (s : State), ownsState r = true → P s → P (handle p r s).1)
    (drain : ∀ (s : State) (b : CellBlock), P s → P (s.completeDrain b)) (wake : ∀ s : State, P s → P s.wakingPulse)
    (restart : ∀ (s : State) (c : ResetCause), P (s.restart c)) {s t : State} (h : step s = .next t) (hs : P s) :
    P t := by
  obtain ⟨a, b, ha, hab, hb⟩ := step_acts s h
  refine plays hb.plays ?_
  have hpa : P a := plays ha.plays hs
  cases hab with
  | plays h => exact plays h hpa
  | request p r =>
    cases hr : ownsState r with
    | false => exact plays (handle_plays a p r hr) hpa
    | true => exact request p r a hr hpa
  | drain _ b => exact drain a b hpa
  | wake => exact wake a hpa
  | restart _ c => exact restart a c

/-! ### Forecast ingest (R28, R29, R34) -/

/-- The part of `State.IngestSound` that is about the open load, its queue and the drain alone. -/
structure Ingest.Agrees (g : Ingest) : Prop where
  clear : g.load = none → g.queue = [] ∧ g.inFlight = none
  opened : ∀ l, g.load = some l → l.phase = .opened → QueueEntry.close ∉ g.queue
  closing : ∀ l, g.load = some l → l.phase = .closing → ∃ bs, g.queue = bs ++ [QueueEntry.close] ∧ QueueEntry.close ∉ bs
  cancelling : ∀ l, g.load = some l → l.phase = .cancelling → g.queue = [] ∧ g.inFlight.isSome = true

theorem State.ingestSound_iff : s.IngestSound ↔
    s.ingest.Agrees ∧ (s.ingest.inFlight = none → s.output.mode ≠ .dormant → s.ingest.queue = []) :=
  ⟨fun ⟨h1, h2, h3, h4, h5⟩ => ⟨⟨h1, h2, h3, h4⟩, h5⟩, fun ⟨⟨h1, h2, h3, h4⟩, h5⟩ => ⟨h1, h2, h3, h4, h5⟩⟩

variable {s} in
theorem State.IngestSound.agrees (h : s.IngestSound) : s.ingest.Agrees := (s.ingestSound_iff.1 h).1

variable {s} in
theorem State.IngestSound.congr {t : State} (h : s.IngestSound) (ingest : t.ingest = s.ingest)
    (mode : t.output.mode = s.output.mode) : t.IngestSound := by
  rw [State.ingestSound_iff] at h ⊢
  rw [ingest, mode]
  exact h

/-- With an empty queue the agreement is all there is to see. -/
theorem State.IngestSound.of_queue_nil {s : State} (h : s.ingest.Agrees) (hq : s.ingest.queue = []) : s.IngestSound :=
  s.ingestSound_iff.2 ⟨h, fun _ _ => hq⟩

theorem Ingest.agrees_of_none {g : Ingest} (hl : g.load = none) (hq : g.queue = []) (hf : g.inFlight = none) :
    g.Agrees :=
  ⟨fun _ => ⟨hq, hf⟩, by simp [hl], by simp [hl], by simp [hl]⟩

/-- A load that is not CANCELLING constrains the queue alone. -/
theorem Ingest.Agrees.of_load {g : Ingest} {l : OpenLoad} (hl : g.load = some l) (hc : l.phase ≠ .cancelling)
    (opened : l.phase = .opened → QueueEntry.close ∉ g.queue)
    (closing : l.phase = .closing → ∃ bs, g.queue = bs ++ [QueueEntry.close] ∧ QueueEntry.close ∉ bs) : g.Agrees := by
  have hload {k : OpenLoad} (hk : g.load = some k) : l = k := Option.some.inj (hl.symm.trans hk)
  exact ⟨by simp [hl], fun k hk => hload hk ▸ opened, fun k hk => hload hk ▸ closing,
    fun k hk hp => absurd hp (hload hk ▸ hc)⟩

/-- The judgement of the close ends the load and leaves the rest of the queue (R32). -/
theorem State.judgeClose_ingest {l : OpenLoad} (h : s.ingest.load = some l) :
    s.judgeClose.ingest.load = none ∧ s.judgeClose.ingest.queue = s.ingest.queue
      ∧ s.judgeClose.ingest.inFlight = s.ingest.inFlight := by
  unfold State.judgeClose
  rw [h]
  dsimp only
  split
  · unfold State.publishLoad
    simp
  · exact ⟨rfl, rfl, rfl⟩

/-- The Assembler's taking of the head leaves the load and the queue in agreement (R29, R32). -/
theorem State.takeHead_ingestSound (h : s.ingest.Agrees) : s.takeHead.IngestSound := by
  unfold State.takeHead
  split
  · next hstop =>
    refine s.ingestSound_iff.2 ⟨h, fun hf hm => ?_⟩
    rcases hstop with hstop | hstop
    · simp [hf] at hstop
    · exact absurd hstop hm
  · next hgo =>
    have hidle : s.ingest.inFlight = none := by simpa using not_or.1 hgo |>.1
    cases hl : s.ingest.load with
    | none =>
      obtain ⟨hq, -⟩ := h.clear hl
      rw [hq]
      exact .of_queue_nil h hq
    | some l =>
      have hc : l.phase ≠ .cancelling := fun hp => by simpa [hidle] using (h.cancelling l hl hp).2
      split
      · next hq => exact .of_queue_nil h hq
      · next b rest hq =>
        refine State.ingestSound_iff _ |>.2 ⟨.of_load hl hc (fun hp => ?_) fun hp => ?_, nofun⟩
        · have := h.opened l hl hp
          rw [hq] at this
          exact fun hm => this (List.mem_cons_of_mem _ hm)
        · obtain ⟨bs, hbs, hnot⟩ := h.closing l hl hp
          rw [hq] at hbs
          cases bs with
          | nil => cases hbs
          | cons c bs =>
            obtain ⟨-, hrest⟩ := List.cons.inj hbs
            exact ⟨bs, hrest, fun hm => hnot (List.mem_cons_of_mem _ hm)⟩
      · next rest hq =>
        have hclosing : l.phase = .closing := by
          cases hp : l.phase with
          | opened => exact absurd (hq ▸ List.mem_cons_self) (h.opened l hl hp)
          | closing => rfl
          | cancelling => exact absurd hp hc
        have hrest : rest = [] := by
          obtain ⟨bs, hbs, hnot⟩ := h.closing l hl hclosing
          rw [hq] at hbs
          cases bs with
          | nil => exact (List.cons.inj hbs).2
          | cons c bs => exact absurd ((List.cons.inj hbs).1 ▸ List.mem_cons_self) hnot
        obtain ⟨hload, hqueue, hflight⟩ :=
          State.judgeClose_ingest (s.withIngest { s.ingest with queue := rest }) hl
        have hqueue : ((s.withIngest { s.ingest with queue := rest }).judgeClose).ingest.queue = [] :=
          hqueue.trans hrest
        exact .of_queue_nil (Ingest.agrees_of_none hload hqueue (hflight.trans hidle)) hqueue

theorem stepOpen_ingestSound (k c : Nat) (ws : List Nat) (h : s.IngestSound) : (stepOpen k c ws s).1.IngestSound := by
  by_cases hbad : 2 < c ∨ 16 < ws.length
  · rw [stepOpen_badLength hbad]; exact h
  · obtain ⟨hc, hws⟩ := not_or.1 hbad
    obtain ⟨fs, hfs⟩ := fieldSetOfCode_some (Nat.le_of_not_lt hc)
    rw [stepOpen_readable hfs (Nat.le_of_not_lt hws)]
    split
    · exact h
    · split
      · exact h
      · split
        · exact h
        · next hl =>
          split
          · exact h
          · obtain ⟨hq, -⟩ := h.clear (by simpa using hl)
            refine .of_queue_nil (.of_load rfl (by simp) (fun _ => ?_) (by simp)) hq
            simp [hq]

theorem cellBlock_ingestSound (r c n : Nat) (v : List CellValue) (h : s.IngestSound) :
    (cellBlock r c n v s).1.IngestSound := by
  unfold cellBlock
  split
  · exact h
  · split
    · exact h
    · next l hl =>
      split
      · exact h
      · next hp =>
        split
        · exact h
        · have hp : l.phase = .opened := not_not.1 hp
          refine State.takeHead_ingestSound _ (.of_load hl (by simp [hp]) (fun _ => ?_) (by simp [hp]))
          simpa using h.opened l hl hp

theorem stepClose_ingestSound (h : s.IngestSound) : (stepClose s).1.IngestSound := by
  unfold stepClose
  split
  · exact h
  · next l hl =>
    split
    · exact h
    · next hp =>
      split
      · exact h
      · exact State.takeHead_ingestSound _ (.of_load (l := { l with phase := .closing }) rfl (by simp) (by simp)
          fun _ => ⟨_, rfl, h.opened l hl (not_not.1 hp)⟩)

/-- A cancelled load leaves no queue, and the load itself only while its drain is in flight (R34). -/
theorem State.cancelLoad_ingestSound (l : OpenLoad) :
    (s.cancelLoad l).IngestSound ∧ (s.cancelLoad l).ingest.queue = [] := by
  unfold State.cancelLoad
  dsimp only
  split
  · next hf =>
    refine ⟨.of_queue_nil ⟨by simp, fun k hk hp => ?_, fun k hk hp => ?_, fun _ _ _ => ⟨rfl, hf⟩⟩ rfl, rfl⟩
    · obtain rfl : { l with phase := .cancelling } = k := Option.some.inj hk
      cases hp
    · obtain rfl : { l with phase := .cancelling } = k := Option.some.inj hk
      cases hp
  · next hf => exact ⟨.of_queue_nil (Ingest.agrees_of_none rfl rfl (Option.not_isSome_iff_eq_none.1 hf)) rfl, rfl⟩

theorem stepCancel_ingestSound (h : s.IngestSound) : (stepCancel s).1.IngestSound := by
  unfold stepCancel
  split
  · exact h
  · next l hl =>
    dsimp only
    split
    · exact h
    · exact (s.cancelLoad_ingestSound l).1

theorem ingestReset_ingestSound (h : s.IngestSound) : (ingestReset s).1.IngestSound := by
  have key (t : State) (ht : t.IngestSound) (hq : t.ingest.queue = []) :
      ((t.withIngest { t.ingest with queue := [] }).restartFeed).IngestSound := by
    refine ht.congr ?_ (by simp)
    rw [← hq]
    simp
  have hs : (s.resetPort .ip).IngestSound := h.congr (by simp) (by simp)
  unfold ingestReset
  dsimp only
  refine key _ ?_ ?_
  · split
    · split
      · exact hs
      · exact (State.cancelLoad_ingestSound _ _).1
    · exact hs
  · split
    · next l hl =>
      split
      · next hp => exact (hs.cancelling l hl hp).1
      · exact (State.cancelLoad_ingestSound _ _).2
    · next hl => exact (hs.clear hl).1

theorem State.leaveDormant_ingestSound (m : Mode) (h : s.IngestSound) : (s.leaveDormant m).IngestSound :=
  (State.takeHead_ingestSound ((s.withTiming (s.timing.startedAt s.now)).withOutput
    { s.output with mode := m, lineup := s.output.lineup && decide (m ≠ .onAir) }) h.agrees).congr (by
      simp [State.leaveDormant]) (by simp [State.leaveDormant, State.refillKeyed])

theorem outputMode_ingestSound (n : Nat) (h : s.IngestSound) : (outputMode n s).1.IngestSound := by
  unfold outputMode
  split
  · exact h
  · next m _ =>
    dsimp only
    unfold State.changeMode
    split
    · exact h
    · split
      · exact State.ingestSound_iff _ |>.2 ⟨by simpa [State.enterDormant] using h.agrees,
          fun _ hm => absurd rfl hm⟩
      · split
        · exact s.leaveDormant_ingestSound m h
        · next hm => exact State.ingestSound_iff _ |>.2 ⟨h.agrees, fun hf _ => h.idle hf hm⟩

theorem State.erroredRecord_ingest : s.erroredRecord.ingest = s.ingest := by simp

theorem State.completeDrain_ingestSound (b : CellBlock) (h : s.IngestSound) : (s.completeDrain b).IngestSound := by
  unfold State.completeDrain
  dsimp only
  split
  · next hl =>
    have hq := (h.clear hl).1
    exact .of_queue_nil (Ingest.agrees_of_none hl hq rfl) hq
  · next l hl =>
    split
    · next hp =>
      have hq := (h.cancelling l hl hp).1
      exact .of_queue_nil (Ingest.agrees_of_none rfl hq rfl) hq
    · next hp =>
      split
      · exact State.takeHead_ingestSound _ (.of_load rfl hp (h.opened l hl) (h.closing l hl))
      · refine State.takeHead_ingestSound _ ?_
        rw [State.erroredRecord_ingest]
        exact .of_load rfl hp (h.opened l hl) (h.closing l hl)

theorem referenceSet_mode (c : Nat) : (referenceSet c s).1.output.mode = s.output.mode := by
  unfold referenceSet
  split
  · rfl
  · next r _ =>
    obtain ⟨x, -, h⟩ := s.setReference_plays r
    exact congrArg Settings.mode h.settings

theorem handle_ingestSound (p : Port) (r : Request) (hr : ownsState r = true) (h : s.IngestSound) :
    (handle p r s).1.IngestSound := by
  cases r with
  | stepOpen k c ws => exact stepOpen_ingestSound s k c ws h
  | cellBlock r c n v => exact cellBlock_ingestSound s r c n v h
  | stepClose => exact stepClose_ingestSound s h
  | stepCancel => exact stepCancel_ingestSound s h
  | ingestReset => exact ingestReset_ingestSound s h
  | outputMode n => exact outputMode_ingestSound s n h
  | referenceSet c =>
    exact h.congr (by simp [handle]) (referenceSet_mode s c)
  | gridDefine | stepDrop | coastBegin | coastLineNew | coastLineContinue | coastEnd | areaMapBegin | areaMapRow
  | bandsWrite | pageWrite | pageLayers => exact h.congr (by simp [handle]) (by simp [handle])
  | _ => cases hr

theorem State.restart_ingestSound (c : ResetCause) : (s.restart c).IngestSound :=
  .of_queue_nil (Ingest.agrees_of_none rfl rfl rfl) rfl

/-- The open load, its queue and the drain stay in agreement. -/
theorem step_ingestSound {s t : State} (h : step s = .next t) (hs : s.IngestSound) : t.IngestSound :=
  step_keeps (P := State.IngestSound)
    (plays := fun h hs => hs.congr h.ingest (congrArg Settings.mode h.settings))
    (request := fun p r s => handle_ingestSound s p r)
    (drain := fun s b => s.completeDrain_ingestSound b)
    (wake := fun s hs =>
      (s.withTiming { s.timing with lastPulse := some s.now }).leaveDormant_ingestSound .standby
        (hs.congr rfl rfl))
    (restart := fun s c => s.restart_ingestSound c) h hs

/-! ### The Feed Monitor (R37 to R42) -/

variable {s} in
theorem State.FeedSound.congr {t : State} (h : s.FeedSound) (feed : t.feed = s.feed) : t.FeedSound := by
  rw [State.feedSound_iff] at h ⊢
  rwa [feed]

theorem FeedMonitor.initial_sound : FeedMonitor.initial.Sound :=
  ⟨⟨by decide, by decide, by decide⟩, by decide, fun _ _ => Nat.zero_le _, Nat.zero_le _⟩

theorem State.takeHead_feed : s.takeHead.feed = s.feed := by simp

/-- The end of a drain counts at most an errored record in the Feed Monitor (R30, R41). -/
theorem State.completeDrain_feedSound (b : CellBlock) (h : s.FeedSound) : (s.completeDrain b).FeedSound := by
  unfold State.completeDrain
  dsimp only
  split
  · exact h.congr rfl
  · split
    · exact h.congr rfl
    · split
      · exact h.congr (by simp)
      · refine State.FeedSound.congr ?_ (State.takeHead_feed _)
        exact (State.erroredRecord_plays _).feed (h.congr rfl)

theorem handle_feedSound (p : Port) (r : Request) (hr : ownsState r = true) (h : s.FeedSound) :
    (handle p r s).1.FeedSound := by
  cases r with
  | ingestReset =>
    refine (State.restartFeed_plays _).feed (h.congr ?_)
    simp only [State.withIngest_feed]
    split
    · split
      · simp
      · simp
    · simp
  | gridDefine | stepDrop | stepOpen | cellBlock | stepClose | stepCancel | coastBegin | coastLineNew
  | coastLineContinue | coastEnd | areaMapBegin | areaMapRow | bandsWrite | pageWrite | pageLayers | referenceSet
  | outputMode => exact h.congr (by simp [handle])
  | _ => cases hr

theorem step_feedSound {s t : State} (h : step s = .next t) (hs : s.FeedSound) : t.FeedSound :=
  step_keeps (P := State.FeedSound)
    (plays := fun h => h.feed)
    (request := fun p r s => handle_feedSound s p r)
    (drain := fun s b => s.completeDrain_feedSound b)
    (wake := fun s hs => hs.congr (by simp))
    (restart := fun s c => (s.restart c).feedSound_iff.2 FeedMonitor.initial_sound) h hs

end Sys2Proof.Machine
end

section
/-! PROOFS. What every step keeps of the coast store, the tables addressed by cell and the bands; and O17. -/

namespace Sys2Proof.Machine

variable (s : State)

/-! ### Coastlines (R46 to R50) -/

/-- `State.CoastSound`, stated of the store. -/
structure CoastStore.Sound (c : CoastStore) : Prop where
  span : polylinesSpan c.polylines 0 c.vertices.length
  counts : ∀ p ∈ c.polylines, 2 ≤ p.count ∧ p.count ≤ 1024
  vertices : c.vertices.length ≤ 8192
  polylines : c.polylines.length ≤ 512
  range : ∀ v ∈ c.vertices, 0 ≤ v.x ∧ v.x ≤ 1535 ∧ 0 ≤ v.y ∧ v.y ≤ 1023
  marker : ∀ i, c.marker = some i → c.state = .loading ∧ i + 1 = c.polylines.length
  empty : c.state = .empty → c.vertices = [] ∧ c.polylines = []

theorem State.coastSound_iff : s.CoastSound ↔ s.coast.Sound :=
  ⟨fun ⟨h1, h2, h3, h4, h5, h6, h7⟩ => ⟨h1, h2, h3, h4, h5, h6, h7⟩,
    fun ⟨h1, h2, h3, h4, h5, h6, h7⟩ => ⟨h1, h2, h3, h4, h5, h6, h7⟩⟩

variable {s} in
theorem State.CoastSound.congr {t : State} (h : s.CoastSound) (coast : t.coast = s.coast) : t.CoastSound := by
  rw [State.coastSound_iff] at h ⊢
  rwa [coast]

theorem polylinesSpan_append (ps qs : List Polyline) (n m : Nat) :
    polylinesSpan (ps ++ qs) n m ↔ ∃ k, polylinesSpan ps n k ∧ polylinesSpan qs k m := by
  induction ps generalizing n with
  | nil => exact ⟨fun h => ⟨n, rfl, h⟩, fun ⟨k, hk, h⟩ => by rwa [show n = k from hk]⟩
  | cons p ps ih =>
    rw [List.cons_append, polylinesSpan, ih]
    exact ⟨fun ⟨hp, k, h, hq⟩ => ⟨k, ⟨hp, h⟩, hq⟩, fun ⟨k, ⟨hp, h⟩, hq⟩ => ⟨hp, k, h, hq⟩⟩

/-- The last polyline starts where the others end, and ends at the last vertex. -/
theorem polylinesSpan_concat (ps : List Polyline) (p : Polyline) (n m : Nat) :
    polylinesSpan (ps ++ [p]) n m ↔ polylinesSpan ps n p.first ∧ p.first + p.count = m := by
  rw [polylinesSpan_append]
  constructor
  · rintro ⟨k, h, rfl, hm⟩
    exact ⟨h, hm⟩
  · rintro ⟨h, hm⟩
    exact ⟨p.first, h, rfl, hm⟩

theorem length_clampVertices (vs : List Vertex) : (clampVertices vs).length = vs.length := List.length_map ..

/-- A clamped vertex lies in the range of R46. -/
theorem clampVertices_range {vs : List Vertex} {v : Vertex} (h : v ∈ clampVertices vs) :
    0 ≤ v.x ∧ v.x ≤ 1535 ∧ 0 ≤ v.y ∧ v.y ≤ 1023 := by
  obtain ⟨p, -, rfl⟩ := List.mem_map.1 h
  simp only [clampVertex, clampInt]
  omega

theorem CoastStore.Sound.range_append {c : CoastStore} (h : c.Sound) (vs : List Vertex) :
    ∀ v ∈ c.vertices ++ clampVertices vs, 0 ≤ v.x ∧ v.x ≤ 1535 ∧ 0 ≤ v.y ∧ v.y ≤ 1023 := fun v hv =>
  (List.mem_append.1 hv).elim (h.range v) clampVertices_range

/-- The store is sound with its marker made absent. -/
theorem CoastStore.Sound.unmarked {c : CoastStore} (h : c.Sound) : CoastStore.Sound { c with marker := none } :=
  ⟨h.span, h.counts, h.vertices, h.polylines, h.range, by simp, h.empty⟩

/-- A store of one more polyline (R48). -/
theorem CoastStore.Sound.append {c : CoastStore} (h : c.Sound) (hl : c.state = .loading) {vs : List Vertex}
    (kind : LineKind) (closed : Bool) (hvs : 2 ≤ vs.length ∧ vs.length ≤ 1024) (hroom : c.polylines.length < 512)
    (hfit : c.vertices.length + vs.length ≤ 8192) :
    CoastStore.Sound { c with
      vertices := c.vertices ++ clampVertices vs
      polylines := c.polylines ++ [{ first := c.vertices.length, count := vs.length, kind, closed }]
      marker := some c.polylines.length } := by
  refine ⟨?_, fun p hp => ?_, ?_, ?_, h.range_append vs, fun i hi => ⟨hl, ?_⟩, fun he => ?_⟩
  · rw [polylinesSpan_concat, List.length_append, length_clampVertices]
    exact ⟨h.span, rfl⟩
  · rcases List.mem_append.1 hp with hp | hp
    · exact h.counts p hp
    · obtain rfl := List.mem_singleton.1 hp
      exact hvs
  · rw [List.length_append, length_clampVertices]; exact hfit
  · rw [List.length_append]; exact hroom
  · obtain rfl : c.polylines.length = i := Option.some.inj hi
    simp
  · exact absurd (hl.symm.trans he) (by decide)

theorem CoastStore.marked_some {c : CoastStore} {i : Nat} {p : Polyline} (h : c.marked = some (i, p)) :
    c.marker = some i ∧ c.polylines[i]? = some p := by
  obtain ⟨j, hj, hp⟩ := Option.bind_eq_some_iff.1 h
  obtain ⟨q, hq, he⟩ := Option.map_eq_some_iff.1 hp
  obtain ⟨rfl, rfl⟩ := Prod.mk.inj he
  exact ⟨hj, hq⟩

/-- The marked polyline is the last (R49). -/
theorem CoastStore.Sound.eq_concat {c : CoastStore} (h : c.Sound) {i : Nat} {p : Polyline}
    (hm : c.marked = some (i, p)) : ∃ ps, c.polylines = ps ++ [p] ∧ ps.length = i := by
  obtain ⟨hi, hp⟩ := CoastStore.marked_some hm
  have hlen := (h.marker i hi).2
  rcases List.eq_nil_or_concat c.polylines with he | ⟨ps, q, he⟩
  · simp [he] at hlen
  · rw [List.concat_eq_append] at he
    have hps : ps.length = i := by simpa [he] using hlen.symm
    obtain rfl : q = p := by simpa [he, ← hps] using hp
    exact ⟨ps, he, hps⟩

/-- A store whose marked polyline is longer (R49). -/
theorem CoastStore.Sound.extend {c : CoastStore} (h : c.Sound) {i : Nat} {p : Polyline}
    (hm : c.marked = some (i, p)) {vs : List Vertex} (hcount : p.count + vs.length ≤ 1024)
    (hfit : c.vertices.length + vs.length ≤ 8192) :
    CoastStore.Sound { c with
      vertices := c.vertices ++ clampVertices vs
      polylines := c.polylines.set i { p with count := p.count + vs.length } } := by
  obtain ⟨ps, hps, rfl⟩ := h.eq_concat hm
  have hset : c.polylines.set ps.length { p with count := p.count + vs.length }
      = ps ++ [{ p with count := p.count + vs.length }] := by simp [hps]
  obtain ⟨hspan, hend⟩ := (polylinesSpan_concat ps p 0 _).1 (hps ▸ h.span)
  have hp := h.counts p (by simp [hps])
  rw [hset]
  refine ⟨?_, fun q hq => ?_, ?_, ?_, h.range_append vs, fun j hj => ?_, fun he => ?_⟩
  · rw [polylinesSpan_concat, List.length_append, length_clampVertices, ← hend]
    exact ⟨hspan, (Nat.add_assoc ..).symm⟩
  · rcases List.mem_append.1 hq with hq | hq
    · exact h.counts q (by simp [hps, hq])
    · obtain rfl := List.mem_singleton.1 hq
      exact ⟨Nat.le_add_right_of_le hp.1, hcount⟩
  · rw [List.length_append, length_clampVertices]; exact hfit
  · simpa [hps] using h.polylines
  · obtain ⟨hl, hlen⟩ := h.marker j hj
    exact ⟨hl, by simpa [hps] using hlen⟩
  · exact absurd ((h.empty he).2.symm.trans hps) (by simp)

theorem refuseLine_coastSound (o : OutcomeCode) (h : s.CoastSound) : (refuseLine s o).1.CoastSound :=
  (State.coastSound_iff _).2 (s.coastSound_iff.1 h).unmarked

theorem coastLineNew_coastSound (k : Nat) (b : Bool) (vs : List Vertex) (h : s.CoastSound) :
    (coastLineNew k b vs s).1.CoastSound := by
  have refused (o : OutcomeCode) := refuseLine_coastSound s o h
  unfold coastLineNew
  dsimp only
  split
  · exact refused _
  · next kind _ =>
    split
    · exact refused _
    · next hlen =>
      split
      · exact refused _
      · next hl =>
        split
        · exact refused _
        · next hroom =>
          obtain ⟨hpolylines, hvertices⟩ := not_or.1 hroom
          exact (State.coastSound_iff _).2 ((s.coastSound_iff.1 h).append (not_not.1 hl) kind b (by omega)
            (Nat.lt_of_not_le hpolylines) (Nat.le_of_not_lt hvertices))

theorem coastLineContinue_coastSound (vs : List Vertex) (h : s.CoastSound) :
    (coastLineContinue vs s).1.CoastSound := by
  have refused (o : OutcomeCode) := refuseLine_coastSound s o h
  unfold coastLineContinue
  dsimp only
  split
  · exact refused _
  · split
    · exact refused _
    · split
      · exact refused _
      · next i p hm =>
        split
        · exact refused _
        · next hcount =>
          split
          · exact refused _
          · next hfit =>
            exact (State.coastSound_iff _).2
              ((s.coastSound_iff.1 h).extend hm (Nat.le_of_not_lt hcount) (Nat.le_of_not_lt hfit))

theorem coastEnd_coastSound (h : s.CoastSound) : (coastEnd s).1.CoastSound := by
  unfold coastEnd
  split
  · exact h
  · obtain ⟨h1, h2, h3, h4, h5, -, -⟩ := h
    exact ⟨h1, h2, h3, h4, h5, nofun, nofun⟩

/-- An empty store is sound in every state. -/
theorem CoastStore.sound_nil (x : CoastState) :
    CoastStore.Sound { state := x, vertices := [], polylines := [], marker := none } :=
  ⟨rfl, by simp, by simp, by simp, by simp, by simp, fun _ => ⟨rfl, rfl⟩⟩

theorem coastBegin_coastSound : (coastBegin s).1.CoastSound := by
  rw [State.coastSound_iff]
  simpa [coastBegin] using CoastStore.sound_nil .loading

theorem handle_coastSound (p : Port) (r : Request) (hr : ownsState r = true) (h : s.CoastSound) :
    (handle p r s).1.CoastSound := by
  cases r with
  | coastBegin => exact coastBegin_coastSound s
  | coastLineNew k b vs => exact coastLineNew_coastSound s k b vs h
  | coastLineContinue vs => exact coastLineContinue_coastSound s vs h
  | coastEnd => exact coastEnd_coastSound s h
  | gridDefine | stepDrop | stepOpen | cellBlock | stepClose | stepCancel | ingestReset | areaMapBegin | areaMapRow
  | bandsWrite | pageWrite | pageLayers | referenceSet | outputMode => exact h.congr (by simp [handle])
  | _ => cases hr

theorem step_coastSound {s t : State} (h : step s = .next t) (hs : s.CoastSound) : t.CoastSound :=
  step_keeps (P := State.CoastSound)
    (plays := fun h hs => hs.congr h.coast)
    (request := fun p r s => handle_coastSound s p r)
    (drain := fun s b hs => hs.congr (by simp))
    (wake := fun s hs => hs.congr (by simp))
    (restart := fun s c => (s.restart c).coastSound_iff.2 (CoastStore.sound_nil .empty)) h hs

/-! ### The grid -/

@[simp] theorem FieldStore.grid_publish (f : FieldStore) (i : SlotId) : (f.publish i).grid = f.grid := by
  simp [FieldStore.publish_eq]

theorem FieldView.Change.grid {v w : FieldView} (h : v.Change w) : w.field.grid = v.field.grid := by
  cases h with
  | repin h => exact h.timeline_grid.2.1
  | relabel | write | drop => rfl
  | publish => simp
  | leave => simp

theorem FieldView.Evolves.grid {v w : FieldView} (h : v.Evolves w) : w.field.grid = v.field.grid := by
  induction h with
  | refl => rfl
  | tail _ h ih => exact h.grid.trans ih

/-- GRID_DEFINE alone among the requests changes the grid (R2). -/
theorem handle_grid (p : Port) (r : Request) (h : ∀ c n, r ≠ .gridDefine c n) :
    (handle p r s).1.field.grid = s.field.grid := by
  cases hr : ownsState r with
  | false => exact (handle_plays s p r hr).grid
  | true =>
    cases r with
    | gridDefine c n => exact absurd rfl (h c n)
    | stepOpen k c ws =>
      rcases stepOpen_view s k c ws with he | ⟨_, _, _, hopen⟩
      · exact congrArg (fun t : State => t.field.grid) he
      · exact congrArg (fun v : FieldView => v.field.grid) hopen.eq
    | stepDrop k => exact (stepDrop_evolves s k).grid
    | cellBlock r c n v => exact (cellBlock_evolves s r c n v).grid
    | stepClose => exact (stepClose_evolves s).grid
    | stepCancel => exact (stepCancel_evolves s).grid
    | ingestReset => exact (ingestReset_evolves s).grid
    | outputMode m => exact (outputMode_evolves s m).grid
    | referenceSet c => exact (referenceSet_evolves s c).grid
    | coastBegin | coastLineNew | coastLineContinue | coastEnd | areaMapBegin | areaMapRow | bandsWrite | pageWrite
    | pageLayers => simp [handle]
    | _ => cases hr

/-! ### The tables addressed by cell (R51, R76) -/

variable {s} in
theorem State.TablesSound.congr {t : State} (h : s.TablesSound) (glyphs : t.eval.glyphs = s.eval.glyphs)
    (areaMap : t.areaMap = s.areaMap) (composer : t.composer = s.composer) (grid : t.field.grid = s.field.grid) :
    t.TablesSound :=
  ⟨glyphs ▸ h.glyphs, areaMap ▸ grid ▸ h.map, composer ▸ h.copies, grid ▸ h.grid⟩

/-- GRID_DEFINE keeps only an Area Map of the new dimensions (R3). -/
theorem gridDefine_tablesSound (c n : Nat) (h : s.TablesSound) : (gridDefine c n s).1.TablesSound := by
  unfold gridDefine
  split
  · exact h
  · split
    · exact h
    · next hdim =>
      refine ⟨storeWf_nil _, fun m hm => ?_, fun x hx => h.copies x (by simpa using hx), fun g hg => ?_⟩
      · have hm : (s.areaMap.filter fun m => m.columns = c && m.rows = n) = some m := by simpa using hm
        obtain ⟨hmap, hkeep⟩ := Option.filter_eq_some_iff.1 hm
        obtain ⟨rfl, rfl⟩ : m.columns = c ∧ m.rows = n := by simpa using hkeep
        exact ⟨(h.map m hmap).1, by simp⟩
      · obtain rfl : { columns := c, rows := n } = g := by simpa using hg
        exact (by omega : 8 ≤ c ∧ c ≤ 96 ∧ 8 ≤ n ∧ n ≤ 64)

theorem storeWf_writeEntries (row col : Nat) (es : List MapEntry) {m : Store MapEntry} (h : storeWf seaCell m) :
    storeWf seaCell (writeEntries row col es m) := by
  induction es generalizing col m with
  | nil => exact h
  | cons e es ih => exact ih (col + 1) (storeWf_put _ _ h)

theorem areaMapBegin_tablesSound (c n : Nat) (h : s.TablesSound) : (areaMapBegin c n s).1.TablesSound := by
  unfold areaMapBegin
  split
  · exact h
  · next g hg =>
    split
    · exact h
    · refine ⟨h.glyphs, fun m hm => ?_, h.copies, h.grid⟩
      obtain rfl := Option.some.inj hm
      exact ⟨storeWf_nil _, hg⟩

theorem areaMapRow_tablesSound (r c n : Nat) (es : List MapEntry) (h : s.TablesSound) :
    (areaMapRow r c n es s).1.TablesSound := by
  unfold areaMapRow
  split
  · exact h
  · split
    · exact h
    · next m hm =>
      split
      · exact h
      · obtain ⟨hwf, hgrid⟩ := h.map m hm
        refine ⟨h.glyphs, fun k hk => ?_, h.copies, h.grid⟩
        obtain rfl := Option.some.inj hk
        exact ⟨storeWf_writeEntries r c es hwf, hgrid⟩

/-- REFERENCE_SET only plays, but for the rate. -/
theorem referenceSet_plays (c : Nat) : ∃ x, (s.withTiming x).Plays (referenceSet c s).1 := by
  unfold referenceSet
  split
  · exact ⟨s.timing, .refl s⟩
  · next r _ =>
    obtain ⟨x, -, h⟩ := s.setReference_plays r
    exact ⟨x, h⟩

theorem handle_tablesSound (p : Port) (r : Request) (hr : ownsState r = true) (h : s.TablesSound) :
    (handle p r s).1.TablesSound := by
  cases r with
  | gridDefine c n => exact gridDefine_tablesSound s c n h
  | areaMapBegin c n => exact areaMapBegin_tablesSound s c n h
  | areaMapRow r c n es => exact areaMapRow_tablesSound s r c n es h
  | referenceSet c =>
    obtain ⟨x, hx⟩ := referenceSet_plays s c
    exact hx.tables (h.congr rfl rfl rfl rfl)
  | bandsWrite f =>
    refine h.congr ?_ (by simp [handle]) (by simp [handle]) (handle_grid s p _ nofun)
    change (bandsWrite f s).1.eval.glyphs = _
    unfold bandsWrite
    split <;> rfl
  | stepDrop | stepOpen | cellBlock | stepClose | stepCancel | ingestReset | coastBegin | coastLineNew
  | coastLineContinue | coastEnd | pageWrite | pageLayers | outputMode =>
    exact h.congr (by simp [handle]) (by simp [handle]) (by simp [handle]) (handle_grid s p _ nofun)
  | _ => cases hr

theorem State.wakingPulse_evolves : s.view.Evolves s.wakingPulse.view :=
  State.leaveDormant_evolves (s.withTiming { s.timing with lastPulse := some s.now }) .standby

theorem Composer.initial_composition (x : Composition) : Composer.initial.composition ≠ some x := by
  simp [Composer.initial]

theorem FieldStore.initial_grid (g : Grid) : FieldStore.initial.grid ≠ some g := by simp [FieldStore.initial]

theorem State.restart_tablesSound (c : ResetCause) : (s.restart c).TablesSound :=
  ⟨storeWf_nil _, fun _ h => absurd h (by simp [State.restart]), fun x h => absurd h (Composer.initial_composition x),
    fun g h => absurd h (FieldStore.initial_grid g)⟩

theorem step_tablesSound {s t : State} (h : step s = .next t) (hs : s.TablesSound) : t.TablesSound :=
  step_keeps (P := State.TablesSound)
    (plays := fun h => h.tables)
    (request := fun p r s => handle_tablesSound s p r)
    (drain := fun s b hs => hs.congr (by simp) (by simp) (by simp) (s.completeDrain_evolves b).grid)
    (wake := fun s hs => hs.congr (by simp) (by simp) (by simp) s.wakingPulse_evolves.grid)
    (restart := fun s c => s.restart_tablesSound c) h hs

/-! ### The bands (R73, R89, R90) -/

variable {s} in
theorem State.BandsSound.congr {t : State} (h : s.BandsSound) (eval : t.eval = s.eval)
    (composer : t.composer = s.composer) : t.BandsSound :=
  ⟨eval ▸ h.1, composer ▸ h.2⟩

/-- With room below the top for the whole list, the thresholds adjusted are strictly ascending, from above the
previous one to the top (R89, R90). -/
theorem adjustThresholds_ascending (top prev : Int) (ts : List Int) (h : prev + ts.length ≤ top) :
    (adjustThresholds top prev ts).length = ts.length ∧ (adjustThresholds top prev ts).Pairwise (· < ·)
      ∧ ∀ t ∈ adjustThresholds top prev ts, prev < t ∧ t ≤ top := by
  induction ts generalizing prev with
  | nil => simp [adjustThresholds]
  | cons t ts ih =>
    have hroom : prev + (ts.length + 1 : Nat) ≤ top := h
    have hx : prev < min (max t (prev + 1)) (top - ts.length) ∧ min (max t (prev + 1)) (top - ts.length) ≤ top := by
      omega
    obtain ⟨hlen, hasc, hall⟩ := ih (min (max t (prev + 1)) (top - ts.length)) (by omega)
    refine ⟨by simp [adjustThresholds, hlen], List.pairwise_cons.2 ⟨fun y hy => (hall y hy).1, hasc⟩, fun y hy => ?_⟩
    rcases List.mem_cons.1 hy with rfl | hy
    · exact hx
    · obtain ⟨hlow, hhigh⟩ := hall y hy
      exact ⟨hx.1.trans hlow, hhigh⟩

theorem adjustForceList_eq (l : List Nat) :
    adjustForceList l = (adjustThresholds 2062 0 (l.map Int.ofNat)).map Int.toNat := by
  simp [adjustForceList, List.map_eq_flatMap]

theorem adjustForceList_sound {l : List Nat} (h : l.length = 12) :
    (adjustForceList l).length = 12 ∧ (adjustForceList l).Pairwise (· < ·)
      ∧ ∀ t ∈ adjustForceList l, 1 ≤ t ∧ t ≤ 2062 := by
  obtain ⟨hlen, hasc, hall⟩ := adjustThresholds_ascending 2062 0 (l.map Int.ofNat) (by simp [h])
  rw [adjustForceList_eq]
  refine ⟨by simp [hlen, h], ?_, fun t ht => ?_⟩
  · refine List.pairwise_map.2 (hasc.imp_of_mem fun {x y} hx hy hxy => ?_)
    have := hall x hx
    omega
  · obtain ⟨x, hx, rfl⟩ := List.mem_map.1 ht
    have := hall x hx
    omega

theorem adjustTideList_sound {l : List Int} (h : l.length = 7) :
    (adjustTideList l).length = 7 ∧ (adjustTideList l).Pairwise (· < ·)
      ∧ ∀ t ∈ adjustTideList l, -1000 ≤ t ∧ t ≤ 2000 := by
  obtain ⟨hlen, hasc, hall⟩ := adjustThresholds_ascending 2000 (-1001) l (by simp [h])
  exact ⟨hlen.trans h, hasc, fun t ht => ⟨(hall t ht).1, (hall t ht).2⟩⟩

theorem BandSettings.Sound.write {b : BandSettings} (h : b.Sound) {x : BandFields} (hx : bandFieldsFit x = true) :
    (b.write x).Sound := by
  obtain ⟨hforce, htide, ⟨hf, ht⟩, hslack, hgale⟩ := h
  obtain ⟨force, tide, forceHyst, tideHyst, slack, galeBand, mode⟩ := x
  simp only [bandFieldsFit, Bool.and_eq_true] at hx
  obtain ⟨⟨hlf, hlt⟩, -⟩ := hx
  refine ⟨?_, ?_, ⟨?_, ?_⟩, ?_, ?_⟩
  · cases force with
    | none => exact hforce
    | some l => exact adjustForceList_sound (by simpa using hlf)
  · cases tide with
    | none => exact htide
    | some l => exact adjustTideList_sound (by simpa using hlt)
  · cases forceHyst with
    | none => exact hf
    | some n => exact Nat.min_le_left _ _
  · cases tideHyst with
    | none => exact ht
    | some n => exact Nat.min_le_left _ _
  · cases slack with
    | none => exact hslack
    | some n => exact Nat.min_le_left _ _
  · cases galeBand with
    | none => exact hgale
    | some n => simp only [BandSettings.write, clampNat]; omega

theorem bandsWrite_bandsSound (x : BandFields) (h : s.BandsSound) : (bandsWrite x s).1.BandsSound := by
  unfold bandsWrite
  split
  · exact h
  · next hfit => exact ⟨h.1.write (by simpa using hfit), h.2⟩

theorem State.answerAwaitingNext_plays : s.Plays s.answerAwaitingNext := by
  unfold State.answerAwaitingNext
  split
  · exact s.answerNext_plays
  · exact .refl s

/-- GRID_DEFINE changes no setting (R3). -/
theorem gridDefine_settings (c n : Nat) : (gridDefine c n s).1.settings = s.settings := by
  unfold gridDefine
  split
  · rfl
  · split
    · rfl
    · exact ((State.answerAwaitingNext_plays _).trans (State.clearGlyphs_plays _)).settings.trans rfl

theorem handle_bandsSound (p : Port) (r : Request) (hr : ownsState r = true) (h : s.BandsSound) :
    (handle p r s).1.BandsSound := by
  cases r with
  | bandsWrite f => exact bandsWrite_bandsSound s f h
  | gridDefine c n =>
    have hcomposer : (gridDefine c n s).1.composer = s.composer := by simp
    have hbands : (gridDefine c n s).1.eval.bands = s.eval.bands :=
      congrArg Settings.bands (gridDefine_settings s c n)
    exact ⟨hbands.symm ▸ h.1, fun x hx => h.2 x (hcomposer ▸ hx)⟩
  | referenceSet c =>
    obtain ⟨x, hx⟩ := referenceSet_plays s c
    exact hx.bands (h.congr rfl rfl)
  | stepDrop | stepOpen | cellBlock | stepClose | stepCancel | ingestReset | coastBegin | coastLineNew
  | coastLineContinue | coastEnd | areaMapBegin | areaMapRow | pageWrite | pageLayers | outputMode =>
    exact h.congr (by simp [handle]) (by simp [handle])
  | _ => cases hr

theorem BandSettings.initial_sound : BandSettings.initial.Sound :=
  ⟨by decide, by decide, by decide, by decide, by decide⟩

theorem step_bandsSound {s t : State} (h : step s = .next t) (hs : s.BandsSound) : t.BandsSound :=
  step_keeps (P := State.BandsSound)
    (plays := fun h => h.bands)
    (request := fun p r s => handle_bandsSound s p r)
    (drain := fun s b hs => hs.congr (by simp) (by simp))
    (wake := fun s hs => hs.congr (by simp) (by simp))
    (restart := fun _ _ => ⟨BandSettings.initial_sound, fun x h => absurd h (Composer.initial_composition x)⟩) h hs

/-! ### O17 -/

/-- The contents of the slots through a step (R4, R6, R25). -/
theorem FieldView.Sound.contents_steps {v w : FieldView} (hv : v.Sound) (h : v.Steps w)
    (hc : ∀ i, (v.field.slot i).ContentsSound) (j : SlotId) : (w.field.slot j).ContentsSound := by
  rcases h with (h | ⟨g, rfl⟩ | h) | rfl
  · exact hv.contents_evolves h hc j
  · exact hc j
  · exact h.contents hc j
  · rw [FieldStore.slot_initial]
    exact .initial

/-- Settles O17: each store's invariant is kept by the requests that own the store, and every other act of a step
leaves the store as it is. -/
theorem storesStaySound : Obligations.StoresStaySound := by
  refine ⟨fun s t hs hc h => ?_, fun s t h => ⟨step_ingestSound h, step_feedSound h⟩,
    fun s t h => ⟨step_coastSound h, step_tablesSound h, step_bandsSound h⟩⟩
  rw [State.cellsSound_iff] at hc ⊢
  exact (s.fieldSound_iff_view.1 hs).contents_steps (step_view s h) hc

end Sys2Proof.Machine
end

section
/-! PROOFS. Which commands alone change which state (O21). -/

namespace Sys2Proof.Machine

variable (s : State)

/-! ### The requests that change the settings, the coast store, the Area Map and the Timeline -/

/-- The requests that change a setting (R73, R87, R92, R133, R183). -/
def setsSettings : Request → Bool
  | .bandsWrite _ | .pageWrite _ _ | .pageLayers _ _ | .referenceSet _ | .outputMode _ => true
  | _ => false

theorem coastBegin_settings : (coastBegin s).1.settings = s.settings :=
  (State.answerNext_plays _).settings.trans rfl

theorem coastEnd_settings : (coastEnd s).1.settings = s.settings := by
  unfold coastEnd
  split <;> rfl

theorem handle_settings (p : Port) (r : Request) (h : setsSettings r = false) :
    (handle p r s).1.settings = s.settings := by
  cases hr : ownsState r with
  | false => exact (handle_plays s p r hr).settings
  | true =>
    cases r with
    | bandsWrite | pageWrite | pageLayers | referenceSet | outputMode => cases h
    | gridDefine c n => exact gridDefine_settings s c n
    | coastBegin => exact coastBegin_settings s
    | coastEnd => exact coastEnd_settings s
    | stepDrop | stepOpen | cellBlock | stepClose | stepCancel | ingestReset | coastLineNew | coastLineContinue
    | areaMapBegin | areaMapRow => simp [handle, State.settings]
    | _ => cases hr

theorem handle_mode (p : Port) (r : Request) (h : ∀ m, r ≠ .outputMode m) :
    (handle p r s).1.output.mode = s.output.mode := by
  cases hr : setsSettings r with
  | false => exact congrArg Settings.mode (handle_settings s p r hr)
  | true =>
    cases r with
    | outputMode m => exact absurd rfl (h m)
    | referenceSet c => exact referenceSet_mode s c
    | bandsWrite | pageWrite | pageLayers => simp [handle]
    | _ => cases hr

theorem State.leaveDormant_rate (m : Mode) : (s.leaveDormant m).timing.rate = s.timing.rate := by
  simp [State.leaveDormant, FrameTiming.startedAt]

theorem outputMode_rate (n : Nat) : (outputMode n s).1.timing.rate = s.timing.rate := by
  unfold outputMode
  split
  · rfl
  · next m _ =>
    dsimp only
    unfold State.changeMode
    split
    · rfl
    · split
      · simp [State.enterDormant, FrameTiming.stopped]
      · split
        · exact s.leaveDormant_rate m
        · rfl

theorem handle_rate (p : Port) (r : Request) (h : ∀ c, r ≠ .referenceSet c) :
    (handle p r s).1.timing.rate = s.timing.rate := by
  cases hr : setsSettings r with
  | false => exact congrArg Settings.rate (handle_settings s p r hr)
  | true =>
    cases r with
    | referenceSet c => exact absurd rfl (h c)
    | outputMode n => exact outputMode_rate s n
    | bandsWrite | pageWrite | pageLayers => simp [handle]
    | _ => cases hr

/-- The thresholds and the gale mode, the part of the settings that BANDS_WRITE writes (R88). -/
def State.bandSettings (s : State) : BandSettings × GaleMode := (s.eval.bands, s.eval.galeMode)

theorem State.Plays.bandSettings {s t : State} (h : s.Plays t) : t.bandSettings = s.bandSettings :=
  congrArg (fun x : Settings => (x.bands, x.galeMode)) h.settings

theorem handle_bandSettings (p : Port) (r : Request) (h : ∀ f, r ≠ .bandsWrite f) :
    (handle p r s).1.bandSettings = s.bandSettings := by
  cases hr : setsSettings r with
  | false => exact congrArg (fun x : Settings => (x.bands, x.galeMode)) (handle_settings s p r hr)
  | true =>
    cases r with
    | bandsWrite f => exact absurd rfl (h f)
    | referenceSet c =>
      obtain ⟨x, hx⟩ := referenceSet_plays s c
      exact hx.bandSettings
    | outputMode | pageWrite | pageLayers => simp [handle, State.bandSettings]
    | _ => cases hr

theorem handle_pages (p : Port) (r : Request) (hwrite : ∀ n f, r ≠ .pageWrite n f)
    (hlayers : ∀ m l, r ≠ .pageLayers m l) : (handle p r s).1.ctl.pages = s.ctl.pages := by
  cases hr : setsSettings r with
  | false => exact congrArg Settings.pages (handle_settings s p r hr)
  | true =>
    cases r with
    | pageWrite n f => exact absurd rfl (hwrite n f)
    | pageLayers m l => exact absurd rfl (hlayers m l)
    | referenceSet c =>
      obtain ⟨x, hx⟩ := referenceSet_plays s c
      exact congrArg Settings.pages hx.settings
    | outputMode | bandsWrite => simp [handle]
    | _ => cases hr

theorem handle_coast (p : Port) (r : Request) (hbegin : r ≠ .coastBegin) (hnew : ∀ k b v, r ≠ .coastLineNew k b v)
    (hcontinue : ∀ v, r ≠ .coastLineContinue v) (hend : r ≠ .coastEnd) : (handle p r s).1.coast = s.coast := by
  cases hr : ownsState r with
  | false => exact (handle_plays s p r hr).coast
  | true =>
    cases r with
    | coastBegin => exact absurd rfl hbegin
    | coastLineNew k b v => exact absurd rfl (hnew k b v)
    | coastLineContinue v => exact absurd rfl (hcontinue v)
    | coastEnd => exact absurd rfl hend
    | gridDefine | stepDrop | stepOpen | cellBlock | stepClose | stepCancel | ingestReset | areaMapBegin | areaMapRow
    | bandsWrite | pageWrite | pageLayers | referenceSet | outputMode => simp [handle]
    | _ => cases hr

theorem handle_areaMap (p : Port) (r : Request) (hbegin : ∀ a b, r ≠ .areaMapBegin a b)
    (hrow : ∀ a b n e, r ≠ .areaMapRow a b n e) (hgrid : ∀ a b, r ≠ .gridDefine a b) :
    (handle p r s).1.areaMap = s.areaMap := by
  cases hr : ownsState r with
  | false => exact (handle_plays s p r hr).areaMap
  | true =>
    cases r with
    | areaMapBegin a b => exact absurd rfl (hbegin a b)
    | areaMapRow a b n e => exact absurd rfl (hrow a b n e)
    | gridDefine a b => exact absurd rfl (hgrid a b)
    | stepDrop | stepOpen | cellBlock | stepClose | stepCancel | ingestReset | coastBegin | coastLineNew
    | coastLineContinue | coastEnd | bandsWrite | pageWrite | pageLayers | referenceSet | outputMode => simp [handle]
    | _ => cases hr

theorem State.cancelLoad_timeline (l : OpenLoad) : (s.cancelLoad l).field.timeline = s.field.timeline := by
  unfold State.cancelLoad
  dsimp only
  split <;> rfl

theorem stepCancel_timeline : (stepCancel s).1.field.timeline = s.field.timeline := by
  unfold stepCancel
  split
  · rfl
  · next l _ =>
    dsimp only
    split
    · rfl
    · exact s.cancelLoad_timeline l

theorem ingestReset_timeline : (ingestReset s).1.field.timeline = s.field.timeline := by
  unfold ingestReset
  simp only [State.restartFeed_frame, State.withIngest_field]
  split
  · split
    · rfl
    · exact State.cancelLoad_timeline (s.resetPort .ip) _
  · rfl

theorem gridDefine_timeline (c n : Nat) : (gridDefine c n s).1.field.timeline = s.field.timeline := by
  obtain ⟨g, hg⟩ := gridDefine_view s c n
  exact congrArg (fun v : FieldView => v.field.timeline) hg

theorem stepOpen_timeline (k c : Nat) (ws : List Nat) :
    (stepOpen k c ws s).1.field.timeline = s.field.timeline := by
  rcases stepOpen_view s k c ws with he | ⟨_, _, _, hopen⟩
  · exact congrArg (fun t : State => t.field.timeline) he
  · exact congrArg (fun v : FieldView => v.field.timeline) hopen.eq

theorem handle_timeline (p : Port) (r : Request) (hclose : r ≠ .stepClose) (hdrop : ∀ h, r ≠ .stepDrop h)
    (hmode : ∀ m, r ≠ .outputMode m) (hblock : ∀ a b n v, r ≠ .cellBlock a b n v) :
    (handle p r s).1.field.timeline = s.field.timeline := by
  cases hr : ownsState r with
  | false => exact (handle_plays s p r hr).timeline
  | true =>
    cases r with
    | stepClose => exact absurd rfl hclose
    | stepDrop k => exact absurd rfl (hdrop k)
    | outputMode m => exact absurd rfl (hmode m)
    | cellBlock a b n v => exact absurd rfl (hblock a b n v)
    | gridDefine c n => exact gridDefine_timeline s c n
    | stepOpen k c ws => exact stepOpen_timeline s k c ws
    | stepCancel => exact stepCancel_timeline s
    | ingestReset => exact ingestReset_timeline s
    | referenceSet c =>
      obtain ⟨x, hx⟩ := referenceSet_plays s c
      exact hx.timeline
    | coastBegin | coastLineNew | coastLineContinue | coastEnd | areaMapBegin | areaMapRow | bandsWrite | pageWrite
    | pageLayers => simp [handle]
    | _ => cases hr

/-! ### Commands -/

/-- The commands that neither restart nor carry a request in a frame. -/
def actsByItself : Instr → Bool
  | .powerOn _ | .resetLineRelease _ | .linkFrameReceived _ _ _ | .replySent _ _ => false
  | _ => true

/-- The command of an owning request, up to the time it is taken at. -/
def commandOf : Request → Instr → Prop
  | .gridDefine a b, c => c = .gridDefine a b
  | .stepDrop h, c => c = .stepDrop h
  | .cellBlock a b n v, c => c = .cellBlock a b n v
  | .stepClose, c => c = .stepClose
  | .coastBegin, c => c = .coastBegin
  | .coastLineNew k b v, c => c = .coastLineNew k b v
  | .coastLineContinue v, c => c = .coastLineContinue v
  | .coastEnd, c => c = .coastEnd
  | .areaMapBegin a b, c => c = .areaMapBegin a b
  | .areaMapRow a b n e, c => c = .areaMapRow a b n e
  | .bandsWrite f, c => c = .bandsWrite f
  | .pageWrite n f, c => c = .pageWrite n f
  | .pageLayers m l, c => c = .pageLayers m l
  | .referenceSet r, c => ∃ k, c = .referenceSet r k
  | .outputMode m, c => ∃ k, c = .outputMode m k
  | _, _ => True

theorem commandOf_of_request {c : Instr} {r : Request} (h : c.request? = some r) : commandOf r c := by
  cases c with
  | referenceSet _ k | outputMode _ k =>
    cases h
    exact ⟨k, rfl⟩
  | _ =>
    cases h
    all_goals trivial

/-- What the operations of the show keep, a command keeps whose own act keeps it. -/
theorem exec_keeps {α : Type} (g : State → α) (plays : ∀ {s t : State}, s.Plays t → g t = g s) {c : Instr}
    (request : ∀ r, commandOf r c → ∀ p s, g (handle p r s).1 = g s)
    (drain : c = .drainCompletion → ∀ s b, g (State.completeDrain s b) = g s)
    (wake : (∃ k, c = .frefPulse k) → ∀ s, g (State.wakingPulse s) = g s) (hc : actsByItself c = true) {s t : State}
    (h : exec c s = .next t) : g t = g s := by
  cases hr : c.request? with
  | some r =>
    obtain ⟨p, n, hp⟩ := exec_request s hr
    rw [hp] at h
    rcases unlessFrozen_next h with rfl | rfl
    · rfl
    · calc g (respond p (handle p r (s.at n)))
        _ = g (handle p r (s.at n)).1 := plays (respond_passes _ _).plays
        _ = g (s.at n) := request r (commandOf_of_request hr) p _
        _ = g s := plays (s.at_plays n)
  | none =>
    cases c with
    | powerOn | resetLineRelease | linkFrameReceived | replySent => cases hc
    | drainCompletion =>
      rcases unlessFrozen_next h with rfl | rfl
      · rfl
      · split
        · exact drain rfl s _
        · rfl
    | frefPulse k =>
      rcases unlessFrozen_next h with rfl | rfl
      · rfl
      · split
        · exact (wake ⟨k, rfl⟩ _).trans (plays (s.at_plays k))
        · exact plays ((s.at_plays k).trans (State.pulse_plays _))
    | _ => exact plays (exec_event_plays s hr rfl h)

/-- The cause of the last restart and the queue of commands are kept. -/
def State.SameOrigin (s t : State) : Prop := t.cause = s.cause ∧ t.pending = s.pending

theorem unlessFrozen_sameOrigin {s t u : State} (h : s.SameOrigin t) (hu : unlessFrozen s t = .next u) :
    s.SameOrigin u := by
  rcases unlessFrozen_next hu with rfl | rfl
  · exact ⟨rfl, rfl⟩
  · exact h

theorem State.nextFrameStart_sameOrigin (n : Nat) : s.SameOrigin ((s.nextFrameStart n).getD s) := by
  unfold State.nextFrameStart
  split
  · split
    · split
      · exact ⟨rfl, rfl⟩
      · simp [State.SameOrigin]
    · exact ⟨rfl, rfl⟩
  · cases s.timing.nextDue with
    | none => exact ⟨rfl, rfl⟩
    | some d => simp [State.SameOrigin]

theorem exec_sameOrigin {c : Instr} (hc : actsByItself c = true) {t : State} (h : exec c s = .next t) :
    s.SameOrigin t := by
  cases hr : c.request? with
  | some r =>
    obtain ⟨p, n, hp⟩ := exec_request s hr
    rw [hp] at h
    exact unlessFrozen_sameOrigin (by simp [State.SameOrigin]) h
  | none =>
    cases c with
    | powerOn | resetLineRelease | linkFrameReceived | replySent => cases hc
    | resetLineAssertion | frameGapTimeout | windowCutCompletion | startOctet =>
      exact unlessFrozen_sameOrigin (by simp [State.SameOrigin]) h
    | framingError | drainCompletion | windowEnd | staleTimerExpiry | frefPulse | internalFrameStart
    | acquiringSilenceExpiry | refLost | compositionCompletion =>
      refine unlessFrozen_sameOrigin ?_ h
      split
      · simp [State.SameOrigin]
      · simp [State.SameOrigin]
    | holdoverEnd =>
      refine unlessFrozen_sameOrigin ?_ h
      split
      · split
        · simp [State.SameOrigin]
        · exact ⟨rfl, rfl⟩
      · exact ⟨rfl, rfl⟩
    | lateFrames n | detailRecovered n =>
      refine unlessFrozen_sameOrigin ?_ h
      split
      · exact s.nextFrameStart_sameOrigin n
      · exact ⟨rfl, rfl⟩
    | safeLineChange b =>
      cases h
      split
      · exact ⟨rfl, rfl⟩
      · simp [State.SameOrigin]
    | _ => cases hr

/-- Settles O21: a command is a request, and the requests other than the owners keep the state named; or it ends a
drain or wakes the generator; or it only plays. -/
theorem ownersAloneChange : Obligations.OwnersAloneChange := by
  intro c s t h hlink hsent hpower hrelease
  have hc : actsByItself c = true := by
    cases c with
    | linkFrameReceived p f k => exact absurd rfl (hlink p f k)
    | replySent p k => exact absurd rfl (hsent p k)
    | powerOn k => exact absurd rfl (hpower k)
    | resetLineRelease k => exact absurd rfl (hrelease k)
    | _ => rfl
  refine ⟨fun hmode hpulse => ?_, fun hrate => ?_, fun hbands => ?_, fun hwrite hlayers => ?_,
    fun hbegin hnew hcontinue hend => ?_, fun hbegin hrow hgrid => ?_, fun hgrid => ?_,
    fun hclose hdrain hdrop hmode hpulse hblock => ?_, exec_sameOrigin s hc h⟩
  · exact exec_keeps (fun s => s.output.mode) (fun h => congrArg Settings.mode h.settings)
      (request := fun r hr p s => handle_mode s p r fun m he => by
        obtain ⟨k, rfl⟩ : ∃ k, c = .outputMode m k := by simpa [he, commandOf] using hr
        exact hmode m k rfl)
      (drain := fun _ s b => by simp)
      (wake := fun ⟨k, hk⟩ => absurd hk (hpulse k)) hc h
  · exact exec_keeps (fun s => s.timing.rate) (fun h => congrArg Settings.rate h.settings)
      (request := fun r hr p s => handle_rate s p r fun n he => by
        obtain ⟨k, rfl⟩ : ∃ k, c = .referenceSet n k := by simpa [he, commandOf] using hr
        exact hrate n k rfl)
      (drain := fun _ s b => by simp)
      (wake := fun _ s => (s.withTiming { s.timing with lastPulse := some s.now }).leaveDormant_rate .standby) hc h
  · exact Prod.mk.inj (exec_keeps State.bandSettings (fun h => h.bandSettings)
      (request := fun r hr p s => handle_bandSettings s p r fun f he => hbands f (he ▸ hr : commandOf (.bandsWrite f) c))
      (drain := fun _ s b => by simp [State.bandSettings])
      (wake := fun _ s => by simp [State.bandSettings]) hc h)
  · exact exec_keeps (fun s => s.ctl.pages) (fun h => congrArg Settings.pages h.settings)
      (request := fun r hr p s => handle_pages s p r
        (fun n f he => hwrite n f (he ▸ hr : commandOf (.pageWrite n f) c))
        (fun m l he => hlayers m l (he ▸ hr : commandOf (.pageLayers m l) c)))
      (drain := fun _ s b => by simp)
      (wake := fun _ s => by simp) hc h
  · exact exec_keeps (fun s => s.coast) (fun h => h.coast)
      (request := fun r hr p s => handle_coast s p r
        (fun he => hbegin (he ▸ hr : commandOf .coastBegin c))
        (fun k b v he => hnew k b v (he ▸ hr : commandOf (.coastLineNew k b v) c))
        (fun v he => hcontinue v (he ▸ hr : commandOf (.coastLineContinue v) c))
        (fun he => hend (he ▸ hr : commandOf .coastEnd c)))
      (drain := fun _ s b => by simp)
      (wake := fun _ s => by simp) hc h
  · exact exec_keeps (fun s => s.areaMap) (fun h => h.areaMap)
      (request := fun r hr p s => handle_areaMap s p r
        (fun a b he => hbegin a b (he ▸ hr : commandOf (.areaMapBegin a b) c))
        (fun a b n e he => hrow a b n e (he ▸ hr : commandOf (.areaMapRow a b n e) c))
        (fun a b he => hgrid a b (he ▸ hr : commandOf (.gridDefine a b) c)))
      (drain := fun _ s b => by simp)
      (wake := fun _ s => by simp) hc h
  · exact exec_keeps (fun s => s.field.grid) (fun h => h.grid)
      (request := fun r hr p s => handle_grid s p r
        (fun a b he => hgrid a b (he ▸ hr : commandOf (.gridDefine a b) c)))
      (drain := fun _ s b => (s.completeDrain_evolves b).grid)
      (wake := fun _ s => s.wakingPulse_evolves.grid) hc h
  · exact exec_keeps (fun s => s.field.timeline) (fun h => h.timeline)
      (request := fun r hr p s => handle_timeline s p r
        (fun he => hclose (he ▸ hr : commandOf .stepClose c))
        (fun k he => hdrop k (he ▸ hr : commandOf (.stepDrop k) c))
        (fun m he => by
          obtain ⟨k, rfl⟩ : ∃ k, c = .outputMode m k := by simpa [he, commandOf] using hr
          exact hmode m k rfl)
        (fun a b n v he => hblock a b n v (he ▸ hr : commandOf (.cellBlock a b n v) c)))
      (drain := fun he => absurd he hdrain)
      (wake := fun ⟨k, hk⟩ => absurd hk (hpulse k)) hc h

end Sys2Proof.Machine
end

section
/-! PROOFS. The Feed Monitor: its events as exact next states, the seconds timebase (O3), FEED_SETTINGS (O28), the
errored records and the compact form of a count (O29). -/

namespace Sys2Proof.Machine

variable (s : State)

/-! ### The events of the Feed Monitor (R37 to R42) -/

@[simp] theorem State.raiseIf_true (e : Notice) : s.raiseIf true e = s.raise e := rfl

@[simp] theorem State.raiseIf_false (e : Notice) : s.raiseIf false e = s := rfl

theorem State.erroredRecord_timed (h : s.feed.window ≠ .continuous) :
    s.erroredRecord = s.withFeed { s.feed with windowCount := sat24 (s.feed.windowCount + 1) } := if_neg h

/-- Under CONTINUOUS an errored record that takes a GOOD feed past its target makes it DEGRADED (R39). -/
theorem State.erroredRecord_continuous (h : s.feed.window = .continuous) :
    s.erroredRecord =
      let above := decide (s.feed.target < sat24 (s.feed.continuous + 1)) && decide (s.feed.state = .good)
      (s.withFeed { s.feed with
        continuous := sat24 (s.feed.continuous + 1)
        state := if above then .degraded else s.feed.state }).raiseIf above .feedErrors := by
  unfold State.erroredRecord
  dsimp only
  rw [if_pos h]
  split
  · next ha => simp [ha.1, ha.2]
  · next ha =>
    have : (decide (s.feed.target < sat24 (s.feed.continuous + 1)) && decide (s.feed.state = .good)) = false := by
      simpa using ha
    simp [this]

theorem State.goodIngestFrame_eq :
    s.goodIngestFrame = (s.withFeed { s.feed with
      staleSeconds := 0, staleRunning := true
      state := if s.feed.state = .stale then .good else s.feed.state }).raiseIf
        (decide (s.feed.state = .stale)) .feedRestored := by
  unfold State.goodIngestFrame
  dsimp only
  split
  · next h => simp [h]
  · next h => simp [h]

/-- At most one of GOOD and DEGRADED changes at a window end (R38). -/
theorem State.endWindow_eq :
    s.endWindow =
      let above := decide (s.feed.target < s.feed.windowCount)
      ((s.withFeed { s.feed with
        elapsed := 0, windowCount := 0, lastWindow := s.feed.windowCount
        state := if above ∧ s.feed.state = .good then .degraded
          else if ¬ above ∧ s.feed.state = .degraded then .good else s.feed.state }).raiseIf
            (above && decide (s.feed.state = .good)) .feedErrors).raiseIf
            (!above && decide (s.feed.state = .degraded)) .feedRestored := by
  unfold State.endWindow
  dsimp only
  split
  · next ha =>
    split
    · next hg => simp [ha, hg]
    · next hg => simp [ha, hg]
  · next ha =>
    split
    · next hd => simp [ha, hd]
    · next hd => simp [ha, hd]

theorem State.expireStale_eq :
    s.expireStale = (s.withFeed { s.feed with
      staleSeconds := s.feed.staleTimeout, staleRunning := false, state := .stale }).raiseIf
        (decide (s.feed.state ≠ .stale)) .feedStale := by
  unfold State.expireStale
  dsimp only
  split
  · next h => simp [h]
  · next h => simp [h]

theorem State.restartFeed_eq :
    s.restartFeed = (s.withFeed { s.feed with
      windowCount := 0, lastWindow := 0, continuous := 0, elapsed := 0, staleSeconds := 0, staleRunning := true
      state := if s.feed.state = .degraded then .good else s.feed.state }).raiseIf
        (decide (s.feed.state = .degraded)) .feedRestored := by
  unfold State.restartFeed
  dsimp only
  split
  · next h => simp [h]
  · next h => simp [h]

/-! ### The compact form of a count (R41) -/

/-- The quotient rounded up is the least number of `d`s that hold `n`. -/
theorem roundedUp_bounds {n d : Nat} (hn : 0 < n) (hd : 0 < d) :
    n ≤ (n + d - 1) / d * d ∧ ((n + d - 1) / d - 1) * d < n := by
  have hle : (n + d - 1) / d * d ≤ n + d - 1 := Nat.div_mul_le_self _ _
  have hlt : n + d - 1 < (n + d - 1) / d * d + d := Nat.lt_div_mul_add hd
  rw [Nat.sub_mul]
  omega

theorem compactPair_zero : compactPair 0 = (0, 0) := rfl

/-- Up to 491,520 the exponent is the smallest that holds the count. -/
theorem compactPair_holds {n : Nat} (hn : 0 < n) (hle : n ≤ 491520) :
    ∃ e, compactPair n = ((n + 2 ^ e - 1) / 2 ^ e, e) ∧ e ≤ 15 ∧ n ≤ 15 * 2 ^ e ∧ ∀ k, k < e → 15 * 2 ^ k < n := by
  unfold compactPair
  rw [if_neg hn.ne']
  cases hf : (List.range 16).find? fun e => decide (n ≤ 15 * 2 ^ e) with
  | none => exact absurd hle (by simpa using List.find?_eq_none.1 hf 15 (by decide))
  | some e =>
    obtain ⟨hholds, hmem, hlow⟩ := List.find?_range_eq_some.1 hf
    exact ⟨e, rfl, Nat.le_of_lt_succ (List.mem_range.1 hmem), by simpa using hholds,
      fun k hk => by simpa using hlow k hk⟩

theorem compactPair_saturated {n : Nat} (h : 491520 < n) : compactPair n = (15, 15) := by
  have hnone : ((List.range 16).find? fun e => decide (n ≤ 15 * 2 ^ e)) = none := by
    refine List.find?_eq_none.2 fun e he => ?_
    have hpow : 2 ^ e ≤ 2 ^ 15 := Nat.pow_le_pow_right (by decide) (Nat.le_of_lt_succ (List.mem_range.1 he))
    simp only [decide_eq_true_eq]
    omega
  unfold compactPair
  rw [if_neg (by omega), hnone]

/-- The mantissa of a count that an exponent holds (R41). -/
theorem mantissa_le {n d : Nat} (hn : 0 < n) (hd : 0 < d) (h : n ≤ 15 * d) : (n + d - 1) / d ≤ 15 := by
  obtain ⟨-, hlow⟩ := roundedUp_bounds hn hd
  have : (n + d - 1) / d - 1 < 15 := Nat.lt_of_mul_lt_mul_right (hlow.trans_le h)
  omega

theorem FeedMonitor.target_le {f : FeedMonitor} (hm : f.targetM ≤ 15) (he : f.targetE ≤ 15) : f.target ≤ 491520 :=
  Nat.mul_le_mul hm (Nat.pow_le_pow_right (n := 2) (by decide) he)

/-- Settles O29: the smallest exponent that holds a count up to 491,520, and the quotient rounded up. -/
theorem erroredRecordsCounted : Obligations.ErroredRecordsCounted := by
  refine ⟨fun s => ⟨s.erroredRecord_timed, s.erroredRecord_continuous, s.goodIngestFrame_eq⟩,
    fun f hm he => ⟨rfl, f.target_le hm he⟩, rfl, compactPair_zero, fun n hn => ?_⟩
  rcases Nat.lt_or_ge 491520 n with hbig | hsmall
  · rw [compactPair_saturated hbig]
    exact ⟨le_rfl, le_rfl, fun h => absurd h (by omega), fun h => absurd h (by omega), fun _ => ⟨rfl, rfl⟩⟩
  · obtain ⟨e, hpair, he, hholds, hleast⟩ := compactPair_holds hn hsmall
    have hpos : 0 < 2 ^ e := Nat.two_pow_pos e
    rw [hpair]
    refine ⟨mantissa_le hn hpos hholds, he, fun _ => ⟨hholds, hleast, roundedUp_bounds hn hpos⟩, fun hn15 => ?_,
      fun h => absurd h (by omega)⟩
    have hzero : e = 0 := Nat.eq_zero_of_not_pos fun h => by
      have := hleast 0 h
      omega
    simp [hzero]

/-! ### The seconds timebase (R38, R40) -/

theorem State.passSeconds_windowDue (n : Nat) :
    (s.passSeconds n).feed.windowDue = true
      ↔ ∃ len, windowLength s.feed.window = some len ∧ len ≤ s.feed.elapsed + n := by
  cases h : windowLength s.feed.window with
  | none => simp [State.passSeconds, FeedMonitor.windowDue, h]
  | some len => simp [State.passSeconds, FeedMonitor.windowDue, h]

theorem State.passSeconds_staleDue (n : Nat) :
    (s.passSeconds n).feed.staleDue = true
      ↔ s.feed.staleRunning = true ∧ s.feed.staleTimeout ≤ s.feed.staleSeconds + n := by
  cases h : s.feed.staleRunning with
  | false => simp [State.passSeconds, FeedMonitor.staleDue, h]
  | true => simp [State.passSeconds, FeedMonitor.staleDue, h]

theorem State.tick_released (h : s.resetLine = false) :
    s.tick =
      if (s.passSeconds 1).feed.windowDue then
        if (s.passSeconds 1).feed.staleDue then
          if Config.windowEndFirst (s.timing.seconds + 1) then (s.passSeconds 1).endWindow.expireStale
          else (s.passSeconds 1).expireStale.endWindow
        else (s.passSeconds 1).endWindow
      else if (s.passSeconds 1).feed.staleDue then (s.passSeconds 1).expireStale
      else s.passSeconds 1 := if_neg (by simp [h])

/-- Settles O3: one second passes, and the events due at its tick follow. -/
theorem secondsTimebaseTicks : Obligations.SecondsTimebaseTicks := by
  intro s hr f passed ended expired windowDue staleDue
  have hpass (n : Nat) : passed n = s.passSeconds n := rfl
  have hend (u : State) : ended u = u.endWindow := u.endWindow_eq.symm
  have hexpire (u : State) : expired u = u.expireStale := u.expireStale_eq.symm
  have hwindow : (s.passSeconds 1).feed.windowDue = true ↔ windowDue := s.passSeconds_windowDue 1
  have hstale : (s.passSeconds 1).feed.staleDue = true ↔ staleDue := s.passSeconds_staleDue 1
  simp only [hpass, hend, hexpire]
  refine ⟨fun hp => ?_, fun hc => ?_, fun len hlen => ?_, fun hstop => ?_, fun hrun => ?_⟩
  · rw [step_nil s hp, s.tick_released hr]
    simp only [hwindow, hstale]
    exact ⟨fun hw hs => by rw [if_neg hw, if_neg hs], fun hw hs => by rw [if_pos hw, if_neg hs],
      fun hw hs => by rw [if_neg hw, if_pos hs], fun hw hs => by rw [if_pos hw, if_pos hs]⟩
  · have hnone : windowLength s.feed.window = none := congrArg windowLength hc
    exact (unlessFrozen_eq s hr).trans (by rw [hnone])
  · exact (unlessFrozen_eq s hr).trans (by rw [show windowLength s.feed.window = some len from hlen])
  · exact (unlessFrozen_eq s hr).trans (congrArg _ (if_neg (Bool.not_eq_true _ ▸ hstop)))
  · exact (unlessFrozen_eq s hr).trans (congrArg _ (if_pos hrun))

/-! ### FEED_SETTINGS (R42) -/

theorem feedWindowOfCode_isNone (c : Nat) : (feedWindowOfCode c).isNone = true ↔ 3 < c := by
  match c with
  | 0 | 1 | 2 | 3 => decide
  | n + 4 => simp [feedWindowOfCode]

theorem clampNat_ne_iff {lo hi : Nat} (h : lo ≤ hi) (n : Nat) : clampNat lo hi n ≠ n ↔ n < lo ∨ hi < n := by
  unfold clampNat
  omega

/-- A field is adjusted exactly when it is present and outside its range. -/
theorem feedFieldsAdjusted_iff (x : FeedFields) :
    feedFieldsAdjusted x = true ↔
      (∃ c, x.window = some c ∧ 3 < c) ∨ (∃ m e, x.target = some (m, e) ∧ (15 < m ∨ 15 < e))
        ∨ (∃ n, x.coverage = some n ∧ 100 < n) ∨ ∃ n, x.staleTimeout = some n ∧ (n < 10 ∨ 600 < n) := by
  simp only [feedFieldsAdjusted, Bool.or_eq_true, Option.any_eq_true, decide_eq_true_eq, feedWindowOfCode_isNone,
    clampNat_ne_iff (show 10 ≤ 600 by decide), Prod.exists, or_assoc]

theorem doneOrClamped_cases (b : Bool) :
    (doneOrClamped b = .clamped ∨ doneOrClamped b = .done) ∧ (doneOrClamped b = .clamped ↔ b = true) := by
  cases b <;> decide

/-- The settings in force after FEED_SETTINGS, with what it restarts: an absent field keeps its value, and a window
code other than the four gives 10 s. -/
theorem FeedMonitor.settings_inForce (f : FeedMonitor) (x : FeedFields) :
    { f.withSettings x with
      windowCount := 0, lastWindow := 0, continuous := 0, elapsed := 0, staleSeconds := 0, staleRunning := true
      state := if f.state = .degraded then .good else f.state } =
    ({ state := if f.state = .degraded then .good else f.state
       window := match x.window with
         | none => f.window
         | some 0 => .oneSecond
         | some 1 => .tenSeconds
         | some 2 => .sixtySeconds
         | some 3 => .continuous
         | some _ => .tenSeconds
       targetM := (x.target.map fun p => min 15 p.1).getD f.targetM
       targetE := (x.target.map fun p => min 15 p.2).getD f.targetE
       coverageMin := (x.coverage.map fun n => min 100 n).getD f.coverageMin
       staleTimeout := (x.staleTimeout.map fun n => max 10 (min 600 n)).getD f.staleTimeout
       windowCount := 0, lastWindow := 0, continuous := 0, elapsed := 0, staleSeconds := 0
       staleRunning := true } : FeedMonitor) := by
  obtain ⟨window, target, coverage, timeout⟩ := x
  refine (FeedMonitor.mk.injEq ..).mpr ⟨rfl, ?_, ?_, ?_, ?_, ?_, rfl, rfl, rfl, rfl, rfl, rfl⟩
  · match window with
    | none | some 0 | some 1 | some 2 | some 3 => rfl
    | some (n + 4) => rfl
  · cases target <;> rfl
  · cases target <;> rfl
  · cases coverage <;> rfl
  · cases timeout <;> rfl

/-- Settles O28: the settings in force, restarted. -/
theorem feedSettingsTakeEffect : Obligations.FeedSettingsTakeEffect := by
  intro x s hr f f' adjusted
  obtain ⟨hcode, hclamped⟩ := doneOrClamped_cases (feedFieldsAdjusted x)
  refine ⟨_, hcode, hclamped.trans (feedFieldsAdjusted_iff x), unlessFrozen_answered hr ?_⟩
  have hstate : (s.withFeed (s.feed.withSettings x)).restartFeed
      = State.raiseIf { s with feed := f' } (decide (s.feed.state = .degraded)) .feedRestored := by
    rw [State.restartFeed_eq]
    exact congrArg (fun g => State.raiseIf (s.withFeed g) _ _) (FeedMonitor.settings_inForce s.feed x)
  unfold feedSettings
  rw [hstate]
  simp only [State.raiseIf_feed]
  rfl

end Sys2Proof.Machine
end

section
/-! PROOFS. Forecast ingest: STEP_CANCEL and INGEST_RESET (O27); CELL_BLOCK and STEP_CLOSE, the head of the queue
and the judgement of the close (O25). -/

namespace Sys2Proof.Machine

variable (s : State)

/-! ### STEP_CANCEL and INGEST_RESET (R34, R44) -/

section Cancel

variable {s} {l : OpenLoad}

/-- With no drain in flight a cancelled load ends at once (R34). -/
theorem State.cancelLoad_idle (h : s.ingest.inFlight = none) :
    s.cancelLoad l = (s.withIngest { s.ingest with queue := [] }).dropLoad l .cancelled none :=
  if_neg (by simp [h])

/-- A drain in flight holds the load as CANCELLING until it completes (R34). -/
theorem State.cancelLoad_draining (h : s.ingest.inFlight ≠ none) :
    s.cancelLoad l = s.withIngest { s.ingest with load := some { l with phase := .cancelling }, queue := [] } :=
  if_pos (Option.isSome_iff_ne_none.2 h)

theorem stepCancel_clear (h : s.ingest.load = none) : stepCancel s = (s, refuse .noLoad) := by
  unfold stepCancel
  rw [h]

theorem stepCancel_cancelling (h : s.ingest.load = some l) (hp : l.phase = .cancelling) :
    stepCancel s = (s, { outcome := .done, fields := [.octet 3] }) := by
  unfold stepCancel
  rw [h]
  dsimp only
  rw [if_pos hp, h]
  simp only [loadStateCode, hp]
  rfl

theorem stepCancel_open (h : s.ingest.load = some l) (hp : l.phase ≠ .cancelling) :
    stepCancel s =
      (s.cancelLoad l,
        { outcome := .done, fields := codeField (loadStateCode (s.cancelLoad l).ingest.load) }) := by
  unfold stepCancel
  rw [h]
  simp only [if_neg hp]

/-- With no OPEN or CLOSING load only the queue is emptied (R44). -/
theorem ingestReset_kept (h : ∀ l, s.ingest.load = some l → l.phase = .cancelling) :
    ingestReset s = (((s.resetPort .ip).withIngest { s.ingest with queue := [] }).restartFeed,
      { outcome := .done, fields := [] }) := by
  unfold ingestReset
  dsimp only
  split
  · next l hl => rw [if_pos (h l hl)]; rfl
  · rfl

theorem ingestReset_open (h : s.ingest.load = some l) (hp : l.phase ≠ .cancelling) :
    ingestReset s = (((s.resetPort .ip).cancelLoad l).restartFeed, { outcome := .done, fields := [] }) := by
  have hq : ((s.resetPort .ip).cancelLoad l).ingest.queue = [] := (State.cancelLoad_ingestSound _ l).2
  unfold ingestReset
  dsimp only
  rw [show (s.resetPort .ip).ingest.load = some l from h]
  simp only [if_neg hp, ← hq]
  rfl

end Cancel

/-- Settles O27: a load that is OPEN or CLOSING is cancelled at once or held by its drain; INGEST_RESET does the same
to the state with its port cleared. -/
theorem cancelAndIngestReset : Obligations.CancelAndIngestReset := by
  intro s hr emptied cancelled cancelling cleared zeroed restarted
  refine ⟨fun hl => ⟨unlessFrozen_answered hr (stepCancel_clear hl),
    unlessFrozen_answered hr (ingestReset_kept (by simp [hl]))⟩, fun l hl => ⟨fun hp => ?_, fun hp hf => ?_, fun hp hf => ?_⟩⟩
  · exact ⟨unlessFrozen_answered hr (stepCancel_cancelling hl hp),
      unlessFrozen_answered hr (ingestReset_kept fun k hk => Option.some.inj (hl.symm.trans hk) ▸ hp)⟩
  · refine ⟨unlessFrozen_answered hr ?_, unlessFrozen_answered hr ?_⟩
    · rw [stepCancel_open hl hp, State.cancelLoad_idle hf]
      rfl
    · rw [ingestReset_open hl hp, State.cancelLoad_idle (s := s.resetPort .ip) hf]
      rfl
  · refine ⟨unlessFrozen_answered hr ?_, unlessFrozen_answered hr ?_⟩
    · rw [stepCancel_open hl hp, State.cancelLoad_draining hf]
      rfl
    · rw [ingestReset_open hl hp, State.cancelLoad_draining (s := s.resetPort .ip) hf]
      rfl

/-! ### The head of the queue and the judgement of the close (R29, R32) -/

theorem FieldStore.coverage_eq {f : FieldStore} {g : Grid} (hg : f.grid = some g) (i : SlotId) :
    f.coverage i = (f.slot i).loaded * 100 / (g.columns * g.rows) := by
  unfold FieldStore.coverage
  rw [hg]
  rfl

section Head

variable {s} {l : OpenLoad}

theorem State.takeHead_stays (h : s.ingest.inFlight ≠ none ∨ s.output.mode = .dormant ∨ s.ingest.queue = []) :
    s.takeHead = s := by
  unfold State.takeHead
  split
  · rfl
  · next hgo =>
    obtain ⟨hf, hm⟩ := not_or.1 hgo
    have hq : s.ingest.queue = [] := (h.resolve_left (by simpa using hf)).resolve_left hm
    rw [hq]

theorem State.not_inFlight_or_dormant (hf : s.ingest.inFlight = none) (hm : s.output.mode ≠ .dormant) :
    ¬ (s.ingest.inFlight.isSome ∨ s.output.mode = .dormant) := by simp [hf, hm]

theorem State.takeHead_block (hf : s.ingest.inFlight = none) (hm : s.output.mode ≠ .dormant) {b : CellBlock}
    {rest : List QueueEntry} (hq : s.ingest.queue = .block b :: rest) :
    s.takeHead = s.withIngest { s.ingest with queue := rest, inFlight := some b } := by
  unfold State.takeHead
  rw [if_neg (State.not_inFlight_or_dormant hf hm), hq]

theorem State.takeHead_close (hf : s.ingest.inFlight = none) (hm : s.output.mode ≠ .dormant)
    {rest : List QueueEntry} (hq : s.ingest.queue = .close :: rest) :
    s.takeHead = (s.withIngest { s.ingest with queue := rest }).judgeClose := by
  unfold State.takeHead
  rw [if_neg (State.not_inFlight_or_dormant hf hm), hq]

theorem State.judgeClose_rejects {c : Nat} (hl : s.ingest.load = some l) (hc : s.field.coverage l.slot = c)
    (h : c < s.feed.coverageMin) : s.judgeClose = (s.dropLoad l .rejected (some c)).raise .loadRejected := by
  unfold State.judgeClose
  rw [hl, ← hc]
  exact if_neg (Nat.not_le.2 (hc ▸ h))

theorem State.judgeClose_publishes {c : Nat} (hl : s.ingest.load = some l) (hc : s.field.coverage l.slot = c)
    (h : s.feed.coverageMin ≤ c) : s.judgeClose = s.publishLoad l c := by
  unfold State.judgeClose
  rw [hl, ← hc]
  exact if_pos (hc ▸ h)

end Head

theorem not_isEmpty_eq_decide {α : Type} [DecidableEq α] (xs : List α) : (!xs.isEmpty) = decide (xs ≠ []) := by
  cases xs with
  | nil => rfl
  | cons x xs => simp

/-! ### CELL_BLOCK and STEP_CLOSE (R26, R27) -/

section Queue

variable {s} {row col n : Nat} {vs : List CellValue} {l : OpenLoad}

theorem cellBlock_badLength (h : n < 1 ∨ 96 < n ∨ vs.length ≠ n) :
    cellBlock row col n vs s = (s, refuse .badLength) := if_pos h

theorem cellBlock_counts_fit (h : 1 ≤ n ∧ n ≤ 96 ∧ vs.length = n) : ¬ (n < 1 ∨ 96 < n ∨ vs.length ≠ n) := by omega

theorem cellBlock_noLoad (hn : 1 ≤ n ∧ n ≤ 96 ∧ vs.length = n)
    (h : ∀ l, s.ingest.load = some l → l.phase ≠ .opened) : cellBlock row col n vs s = (s, refuse .noLoad) := by
  unfold cellBlock
  rw [if_neg (cellBlock_counts_fit hn)]
  split
  · rfl
  · next l hl => exact if_pos (h l hl)

theorem cellBlock_queueFull (hn : 1 ≤ n ∧ n ≤ 96 ∧ vs.length = n) (hl : s.ingest.load = some l)
    (hp : l.phase = .opened) (hq : 64 ≤ s.ingest.queue.length) :
    cellBlock row col n vs s = (s, refuse .queueFull) := by
  unfold cellBlock
  rw [if_neg (cellBlock_counts_fit hn), hl]
  exact (if_neg (not_not.2 hp)).trans (if_pos hq)

theorem cellBlock_accepted (hn : 1 ≤ n ∧ n ≤ 96 ∧ vs.length = n) (hl : s.ingest.load = some l)
    (hp : l.phase = .opened) (hq : s.ingest.queue.length < 64) :
    cellBlock row col n vs s =
      ((s.withIngest { s.ingest with
          queue := s.ingest.queue ++ [.block { row := row, firstCol := col, count := n, values := vs }] }).takeHead,
        { outcome := .accepted, fields := [.num (s.ingest.queue.length + 1 : Nat)] }) := by
  unfold cellBlock
  rw [if_neg (cellBlock_counts_fit hn), hl]
  exact (if_neg (not_not.2 hp)).trans (if_neg (Nat.not_le.2 hq))

theorem stepClose_noLoad (h : ∀ l, s.ingest.load = some l → l.phase ≠ .opened) :
    stepClose s = (s, refuse .noLoad) := by
  unfold stepClose
  split
  · rfl
  · next l hl => exact if_pos (h l hl)

theorem stepClose_queueFull (hl : s.ingest.load = some l) (hp : l.phase = .opened)
    (hq : 64 ≤ s.ingest.queue.length) : stepClose s = (s, refuse .queueFull) := by
  unfold stepClose
  rw [hl]
  exact (if_neg (not_not.2 hp)).trans (if_pos hq)

theorem stepClose_accepted (hl : s.ingest.load = some l) (hp : l.phase = .opened)
    (hq : s.ingest.queue.length < 64) :
    stepClose s =
      ((s.withIngest { s.ingest with
          load := some { l with phase := .closing }, queue := s.ingest.queue ++ [.close] }).takeHead,
        { outcome := .accepted, fields := [] }) := by
  unfold stepClose
  rw [hl]
  exact (if_neg (not_not.2 hp)).trans (if_neg (Nat.not_le.2 hq))

/-- A block that finds the Assembler idle and the queue empty goes straight into its drain (R29). -/
theorem State.takeHead_only_block (hf : s.ingest.inFlight = none) (hm : s.output.mode ≠ .dormant)
    (hq : s.ingest.queue = []) (b : CellBlock) :
    (s.withIngest { s.ingest with queue := s.ingest.queue ++ [.block b] }).takeHead =
      s.withIngest { s.ingest with inFlight := some b } :=
  State.takeHead_block (s := s.withIngest { s.ingest with queue := s.ingest.queue ++ [.block b] })
    (rest := s.ingest.queue) hf hm (by simp [hq])

/-- And a close is judged at once. -/
theorem State.takeHead_only_close (hf : s.ingest.inFlight = none) (hm : s.output.mode ≠ .dormant)
    (hq : s.ingest.queue = []) (x : Option OpenLoad) :
    (s.withIngest { s.ingest with load := x, queue := s.ingest.queue ++ [.close] }).takeHead =
      (s.withIngest { s.ingest with load := x }).judgeClose :=
  State.takeHead_close (s := s.withIngest { s.ingest with load := x, queue := s.ingest.queue ++ [.close] })
    (rest := s.ingest.queue) hf hm (by simp [hq])

end Queue

/-- Settles O25: the checks in their order, then the entry appended is left by a busy Assembler and taken by an idle
one. -/
theorem blocksAndCloseAreQueued : Obligations.BlocksAndCloseAreQueued := by
  intro row col n vs s hr
  refine ⟨fun hbad => unlessFrozen_answered hr (cellBlock_badLength hbad),
    fun hno => ⟨unlessFrozen_answered hr (stepClose_noLoad hno),
      fun h1 h2 h3 => unlessFrozen_answered hr (cellBlock_noLoad ⟨h1, h2, h3⟩ hno)⟩,
    fun l hl hp => ⟨fun hfull => ⟨unlessFrozen_answered hr (stepClose_queueFull hl hp hfull),
      fun h1 h2 h3 => unlessFrozen_answered hr (cellBlock_queueFull ⟨h1, h2, h3⟩ hl hp hfull)⟩, fun hroom => ?_⟩⟩
  intro b closing
  have hclose := stepClose_accepted hl hp hroom
  refine ⟨fun hbusy => ?_, fun hf hm hq => ⟨fun h1 h2 h3 => ?_, fun g hg => ?_⟩⟩
  · refine ⟨unlessFrozen_answered hr ?_, fun h1 h2 h3 => unlessFrozen_answered hr ?_⟩
    · rw [hclose, State.takeHead_stays]
      · rfl
      · exact hbusy.imp_right .inl
    · rw [cellBlock_accepted ⟨h1, h2, h3⟩ hl hp hroom, State.takeHead_stays]
      · rfl
      · exact hbusy.imp_right .inl
  · refine unlessFrozen_answered hr ?_
    rw [cellBlock_accepted ⟨h1, h2, h3⟩ hl hp hroom, State.takeHead_only_block hf hm hq, hq]
    rfl
  · intro x c emptied rejected
    have hc : s.field.coverage l.slot = c := FieldStore.coverage_eq hg l.slot
    rw [State.takeHead_only_close hf hm hq] at hclose
    refine ⟨fun hlow => unlessFrozen_answered hr ?_, fun hreach => unlessFrozen_answered hr ?_⟩
    · rw [hclose, State.judgeClose_rejects (s := s.withIngest { s.ingest with load := some closing }) rfl hc hlow]
      rfl
    · rw [hclose, State.judgeClose_publishes (s := s.withIngest { s.ingest with load := some closing }) rfl hc hreach]
      unfold State.publishLoad
      dsimp only
      rw [not_isEmpty_eq_decide]
      rfl

end Sys2Proof.Machine
end

section
/-! PROOFS. The completion of a drain (O26): what a placed block writes cell by cell and counts, and where the
Assembler goes from there. -/

namespace Sys2Proof.Machine

variable (s : State)

/-! ### The adjustment of a value (R31) -/

/-- A number is counted exactly when it lies out of its range. -/
theorem clampInt_eq_iff {lo hi : Int} (h : lo ≤ hi) (i : Int) : clampInt lo hi i = i ↔ ¬ (i < lo ∨ hi < i) := by
  unfold clampInt
  omega

theorem adjustComponent_eq (i : Int) :
    adjustComponent i = (clampInt (-1500) 1500 i, if i < -1500 ∨ 1500 < i then 1 else 0) := by
  simp only [adjustComponent, clampInt_eq_iff (show (-1500 : Int) ≤ 1500 by decide), ite_not]

theorem adjustWind_eq (fs : FieldSet) (wind : Option Wind) :
    adjustWind fs wind =
      (if fs = .tide then none
        else wind.map fun w => { u := clampInt (-1500) 1500 w.u, v := clampInt (-1500) 1500 w.v },
      match wind with
        | none => 0
        | some w =>
          if fs = .tide then 1
          else (if w.u < -1500 ∨ 1500 < w.u then 1 else 0) + if w.v < -1500 ∨ 1500 < w.v then 1 else 0) := by
  cases wind with
  | none => simp [adjustWind]
  | some w =>
    by_cases h : fs = .tide
    · simp [adjustWind, h]
    · simp [adjustWind, adjustComponent_eq, h]

theorem adjustTide_eq (fs : FieldSet) (tide : Option Int) :
    adjustTide fs tide =
      (if fs = .wind then none else tide.map (clampInt (-1000) 2000),
      match tide with
        | none => 0
        | some h => if fs = .wind then 1 else if h < -1000 ∨ 2000 < h then 1 else 0) := by
  cases tide with
  | none => simp [adjustTide]
  | some h =>
    by_cases hfs : fs = .wind
    · simp [adjustTide, hfs]
    · simp only [adjustTide, hfs, if_false, clampInt_eq_iff (show (-1000 : Int) ≤ 2000 by decide), ite_not]
      rfl

theorem adjustValue_eq (fs : FieldSet) (v : CellValue) :
    adjustValue fs v =
      ({ wind := (adjustWind fs v.wind).1, tide := (adjustTide fs v.tide).1 },
        (adjustWind fs v.wind).2 + (adjustTide fs v.tide).2) := rfl

/-! ### The cells a block writes (R6, R31) -/

theorem cellKey_inj {c c' r r' : Nat} (hc : c < 96) (hc' : c' < 96) :
    cellKey c r = cellKey c' r' ↔ c = c' ∧ r = r' := by
  unfold cellKey
  omega

section Write

variable (fs : FieldSet) (row : Nat)

theorem storeWf_writeValues (col : Nat) (vs : List CellValue) (m : Store CellValue × Nat)
    (h : storeWf absentCell m.1) : storeWf absentCell (writeValues fs row col vs m).1 := by
  induction vs generalizing col m with
  | nil => exact h
  | cons v vs ih => exact ih (col + 1) _ (storeWf_put _ _ h)

/-- The clamps of a block are those of its values. -/
theorem writeValues_clamps (col : Nat) (vs : List CellValue) (m : Store CellValue × Nat) :
    (writeValues fs row col vs m).2 = m.2 + (vs.map fun v => (adjustValue fs v).2).sum := by
  induction vs generalizing col m with
  | nil => rfl
  | cons v vs ih => rw [writeValues, ih, List.map_cons, List.sum_cons, Nat.add_assoc]

/-- The cells of a row from the first column on read as the values adjusted, every other cell as before. -/
theorem storeGet_writeValues {col : Nat} {vs : List CellValue} (m : Store CellValue × Nat)
    (hfit : col + vs.length ≤ 96) {c r : Nat} (hc : c < 96) :
    storeGet absentCell (cellKey c r) (writeValues fs row col vs m).1 =
      if r = row ∧ col ≤ c ∧ c < col + vs.length then (adjustValue fs (vs.getD (c - col) absentCell)).1
      else storeGet absentCell (cellKey c r) m.1 := by
  induction vs generalizing col m with
  | nil => rw [if_neg (by simp)]; rfl
  | cons v vs ih =>
    rw [List.length_cons] at hfit ⊢
    rw [writeValues, ih _ (by omega)]
    by_cases hhere : r = row ∧ c = col
    · obtain ⟨rfl, rfl⟩ := hhere
      rw [if_neg (by omega), if_pos (by omega), storeGet_put_self]
      simp
    · have hkey : cellKey c r ≠ cellKey col row := fun he =>
        hhere ((cellKey_inj hc (by omega)).1 he).symm
      rw [storeGet_put_ne _ hkey]
      by_cases hlater : r = row ∧ col + 1 ≤ c ∧ c < col + 1 + vs.length
      · rw [if_pos hlater, if_pos (by omega), show c - col = (c - (col + 1)) + 1 by omega, List.getD_cons_succ]
      · rw [if_neg hlater, if_neg (by omega)]

end Write

/-! ### The completion of a drain (R29, R30, R35) -/

section Drain

variable {s} {b : CellBlock} {l : OpenLoad}

theorem blockPlaced_iff {g : Grid} (hg : s.field.grid = some g) :
    blockPlaced s.field.grid b = true ↔ b.row < g.rows ∧ b.firstCol + b.count ≤ g.columns := by
  simp [blockPlaced, hg]

theorem State.completeDrain_cancelling (hl : s.ingest.load = some l) (hp : l.phase = .cancelling) :
    s.completeDrain b = (s.withIngest { s.ingest with inFlight := none }).dropLoad l .cancelled none := by
  unfold State.completeDrain
  rw [hl]
  exact if_pos hp

theorem State.completeDrain_misplaced (hl : s.ingest.load = some l) (hp : l.phase ≠ .cancelling)
    (hb : ¬ blockPlaced s.field.grid b = true) :
    s.completeDrain b = (s.withIngest { s.ingest with
      inFlight := none, load := some { l with misplaced := sat16 (l.misplaced + 1) } }).erroredRecord.takeHead := by
  unfold State.completeDrain
  rw [hl]
  exact (if_neg hp).trans (if_neg hb)

theorem State.completeDrain_placed (hl : s.ingest.load = some l) (hp : l.phase ≠ .cancelling)
    (hb : blockPlaced s.field.grid b = true) :
    s.completeDrain b = ((s.withIngest { s.ingest with inFlight := none }).writeBlock l b).takeHead := by
  unfold State.completeDrain
  rw [hl]
  exact (if_neg hp).trans (if_pos hb)

/-- A placed block changes the cells of its load's slot and the clamp count of the load (R31). -/
theorem State.writeBlock_eq :
    s.writeBlock l b =
      let x := s.field.slot l.slot
      let m := (writeValues l.fieldSet b.row b.firstCol b.values (x.cells, 0)).1
      (s.withField (s.field.setSlot l.slot { x with cells := m, loaded := m.length })).withIngest
        { s.ingest with
          load := some { l with
            clamps := sat16 (l.clamps + (b.values.map fun v => (adjustValue l.fieldSet v).2).sum) } } := by
  have hclamps := writeValues_clamps l.fieldSet b.row b.firstCol b.values ((s.field.slot l.slot).cells, 0)
  rw [Nat.zero_add] at hclamps
  rw [← hclamps]
  rfl

theorem exec_drainCompletion (hr : s.resetLine = false) (hf : s.ingest.inFlight = some b) :
    exec .drainCompletion s = .next (s.completeDrain b) :=
  (unlessFrozen_eq s hr).trans (by rw [hf])

/-- The outcome of the judgement of a close (R32, R33). -/
theorem State.judgeClose_outcome {g : Grid} (hl : s.ingest.load = some l) (hg : s.field.grid = some g) :
    (s.judgeClose.ingest.lastLoad.map fun r => r.outcome) =
      some (if s.feed.coverageMin ≤ (s.field.slot l.slot).loaded * 100 / (g.columns * g.rows)
        then .published else .rejected) := by
  have hc := FieldStore.coverage_eq hg l.slot
  split
  · next h =>
    rw [State.judgeClose_publishes hl hc h]
    simp [State.publishLoad]
  · next h =>
    rw [State.judgeClose_rejects hl hc (Nat.not_le.1 h)]
    rfl

end Drain

/-- Settles O26: the end of a drain by the phase of the load and the place of its block; the array a placed block leaves
is read cell by cell along its row. -/
theorem drainCompletes : Obligations.DrainCompletes := by
  refine ⟨fun b l g s hr hf hl hg => ?_, fun s => ⟨State.takeHead_stays, fun hf hm =>
    ⟨fun b rest => State.takeHead_block hf hm, fun rest l g hq hl hg => ?_⟩⟩⟩
  · intro x idle placed emptied
    have hplaced : blockPlaced s.field.grid b = true ↔ placed := blockPlaced_iff hg
    rw [exec_drainCompletion hr hf]
    refine ⟨fun hp => congrArg _ (State.completeDrain_cancelling hl hp),
      fun hp hb => congrArg _ (State.completeDrain_misplaced hl hp (mt hplaced.1 hb)), fun hp hb hcols hs hlen => ?_⟩
    intro near beyond adjusted adjustments n
    have hadj (v : CellValue) : adjustValue l.fieldSet v = (adjusted v, adjustments v) := by
      rw [adjustValue_eq, adjustWind_eq, adjustTide_eq]
      rfl
    refine ⟨(writeValues l.fieldSet b.row b.firstCol b.values (x.cells, 0)).1, ?_,
      storeWf_writeValues _ _ _ _ _ (hs.canonical l.slot), fun c r hc => ?_⟩
    · rw [State.completeDrain_placed hl hp (hplaced.2 hb), State.writeBlock_eq]
      simp only [hadj]
      rfl
    · have hfit : b.firstCol + b.values.length ≤ 96 := by
        rw [hlen]
        exact hb.2.trans hcols
      rw [storeGet_writeValues _ _ _ hfit hc, hadj, hlen]
  · have hjudged := State.judgeClose_ingest (s.withIngest { s.ingest with queue := rest }) hl
    rw [State.takeHead_close hf hm hq]
    exact ⟨State.judgeClose_outcome (s := s.withIngest { s.ingest with queue := rest }) hl hg, hjudged.1, hjudged.2.1⟩

end Sys2Proof.Machine
end

section
/-! PROOFS. The reading requests (O10): they leave the state as it is, and their replies written out field by field. -/

namespace Sys2Proof.Machine

/-! ### Fields of a reply, one after another (R164) -/

/-- The fields of each kind. -/
theorem field_forms :
    (∀ n : Nat, numField n = [.num n]) ∧ (∀ n : Nat, codeField n = [.octet n])
    ∧ (∀ b : Bool, flagField b = [.octet (if b then 1 else 0)]) ∧ ∀ n : Nat, longField n = [.long n] :=
  ⟨fun _ => rfl, fun _ => rfl, fun _ => rfl, fun _ => rfl⟩

section Items

variable {α : Type} (item : α → List Field)

theorem optField_eq (o : Option α) :
    optField item o = (o.map fun a => item a).elim [.octet 0] fun x => .octet 1 :: x := by
  cases o <;> rfl

theorem listField_eq (xs : List α) : listField item xs = .octet xs.length :: xs.flatMap fun a => item a := rfl

/-- A list whose items are one field each. -/
theorem flatMap_one (f : α → Field) (xs : List α) : (xs.flatMap fun a => [f a]) = xs.map f :=
  List.map_eq_flatMap.symm

end Items

theorem alertCode_eq (a : AlertState) : alertCode a = if a = .gale then 1 else 0 := by cases a <;> rfl

/-- Under CONTINUOUS there is no window in progress to reply (R39, R43). -/
theorem windowProgress_eq (w : FeedWindow) (n : Nat) :
    optField (fun _ => numField n) (windowLength w) = if w = .continuous then [.octet 0] else [.octet 1, .num n] := by
  cases w <;> rfl

/-- In DORMANT the lock state is absent, as Frame Timing is stopped (R135). -/
theorem runningLock_eq (s : State) :
    optField (fun l => codeField (lockShownCode l)) (runningLock s) =
      if s.output.mode = .dormant then [.octet 0]
      else [.octet 1, .octet (match s.timing.lock with
        | .freeRun => 0
        | .acquiring => 1
        | .locked => 2
        | .holdover => 3)] := by
  unfold runningLock lockShown
  split
  · rfl
  · cases s.timing.lock <;> rfl

theorem recordCell_eq (x : Option RecordChart) (col row : Nat) :
    recordCell x col row = (x.elim [] fun c => c.cells).find? fun c => decide (c.col = col ∧ c.row = row) := by
  cases x with
  | none => rfl
  | some c => simp [recordCell, Bool.decide_and]

theorem length_areaNumbers : areaNumbers.length = 31 := rfl

/-- Settles O10: on both sides a reply is put in one form, its fields in a row, where an optional field is the `opt` of
its value; CELL_READ's count is checked before its reply. -/
theorem readsChangeNothing : Obligations.ReadsChangeNothing := by
  intro s hr flag opt numOpt count feed bands cues timing timeline frame chart areas cells
  have hopt {α : Type} (item : α → List Field) (o : Option α) :
      optField item o = opt (o.map fun a => item a) := optField_eq item o
  have hframe : shownFrameField s = frame := hopt _ _
  have hchart : shownChart s = chart := rfl
  have hfeed : feedReadFields s = feed := by
    simp only [feedReadFields, windowProgress_eq]
    simp [feed, loadFields, loadResultFields, countFields, FeedMonitor.target, hopt, field_forms, count, numOpt, flag,
      Function.comp_def]
  have hbands : bandFieldsReply s.eval = bands := by
    simp [bandFieldsReply, bands, listField_eq, flatMap_one, field_forms, alertCode_eq]
  have hcues : (cueRead s).2.fields = cues := by
    simp [cueRead, cues, contextReport, refFields, Context.starved, CoastPart.pending, ShowController.at, listField_eq,
      hopt, field_forms, numOpt, flag]
  have htiming (x : State) (hx : x.timing = s.timing) (ho : x.output = s.output) :
      timingReadFields x = timing x.now := by
    rw [timingReadFields, runningLock_eq, hx, ho]
    simp [timing, hopt, field_forms, sat24] <;> rfl
  have htimeline : timelineFields s = timeline := by
    simp [timelineFields, timeline, timelineEntry, slotFields, FieldStore.hourOf, listField_eq, flatMap_one, hopt,
      field_forms, numOpt, Function.comp_def, Option.isSome_iff_ne_none]
  have hareas : (areaRead s).2.fields = areas := by
    simp only [areaRead, hchart, hframe, areas]
    clear_value chart
    cases chart with
    | none =>
      simp [areaFields, emptySummary, length_areaNumbers, listField_eq, hopt, field_forms, numOpt, flag,
        -List.reduceReplicate]
    | some c => simp [areaFields, listField_eq, hopt, field_forms, numOpt, flag]
  have hcells (row col n : Nat) (hn : 1 ≤ n ∧ n ≤ 96) :
      cellRead row col n s = (s, { outcome := .done, fields := cells row col n }) := by
    rw [cellRead, if_neg (by omega), hframe, hchart]
    simp [cells, cellFields, recordHeadFields, recordCell_eq, listField_eq, hopt, field_forms, numOpt, flag]
  exact ⟨unlessFrozen_answered hr (by rw [feedRead, hfeed]), unlessFrozen_answered hr (by rw [bandsRead, hbands]),
    unlessFrozen_answered hr (by rw [← hcues]; rfl),
    fun t => unlessFrozen_answered (t := s.at t) hr (by rw [timingRead, htiming (s.at t) rfl rfl]),
    fun p => unlessFrozen_answered hr (by rw [timelineRead, htimeline]),
    fun p => unlessFrozen_answered hr (by rw [← hareas]; rfl),
    fun p row col n hn => unlessFrozen_answered hr (hcells row col n hn),
    fun p row col n hn => unlessFrozen_answered hr (if_pos hn)⟩

end Sys2Proof.Machine
end

section
/-! PROOFS. The coast store: COAST_BEGIN (O30), COAST_END (O31) and COAST_LINE (O32). -/

namespace Sys2Proof.Machine

/-! ### NEXT answered (R104) -/

/-- A PREPARING context becomes READY. -/
def Context.prepared (x : Context) : Context :=
  if x.prep = some .preparing then { x with prep := some .ready } else x

/-- NEXT_READY is raised exactly when NEXT was PREPARING, and NEXT is prepared either way. -/
theorem State.answerNext_eq (s : State) :
    s.answerNext = (s.withCtl { s.ctl with next := s.ctl.next.map Context.prepared }).raiseIf
      (s.ctl.next.any fun x => decide (x.prep = some .preparing)) .nextReady := by
  unfold State.answerNext ShowController.nextPreparing
  by_cases h : (s.ctl.next.any fun x => decide (x.prep = some .preparing)) = true
  · have hnext : (s.ctl.next.map fun x => { x with prep := some .ready }) = s.ctl.next.map Context.prepared :=
      Option.map_congr fun x hx => (if_pos (by simpa [hx] using h)).symm
    rw [if_pos h, h, hnext, State.raiseIf_true]
  · have hnext : s.ctl.next.map Context.prepared = s.ctl.next :=
      (Option.map_congr fun x hx => if_neg (by simpa [hx] using h)).trans (Option.map_id')
    rw [if_neg h, Bool.eq_false_of_not_eq_true h, hnext, State.raiseIf_false]
    rfl

/-! ### COAST_BEGIN and COAST_END (R47, R50, R61) -/

theorem Context.abandonCut_prep (x : Context) : x.abandonCut.prep = x.prep := by
  unfold Context.abandonCut; split <;> rfl

/-- Settles O30: the cuts in flight are abandoned, and then NEXT is answered. -/
theorem coastBeginStartsLoad : Obligations.CoastBeginStartsLoad := by
  intro s hr c abandon waiting answer ctl
  refine unlessFrozen_answered hr (Prod.ext ?_ rfl)
  have hwaiting : ((s.ctl.next.map Context.abandonCut).any fun x => decide (x.prep = some .preparing)) = waiting := by
    simp only [Option.any_map, Context.abandonCut_prep, waiting]
  have hnext : (s.ctl.next.map Context.abandonCut).map Context.prepared = s.ctl.next.map fun x => answer (abandon x) :=
    Option.map_map ..
  refine (State.answerNext_eq _).trans ?_
  simp only [State.withCtl_ctl, ShowController.mapContexts, hwaiting, hnext]
  rfl

/-- Settles O31. -/
theorem coastEndValidatesStore : Obligations.CoastEndValidatesStore :=
  fun _ hr => ⟨fun h => unlessFrozen_answered hr (if_pos h),
    fun h => unlessFrozen_answered hr (if_neg (not_not_intro h))⟩

/-! ### The parts of COAST_LINE (R48, R49) -/

theorem lineKindOfCode_none {code : Nat} (h : 2 < code) : lineKindOfCode code = none := by
  match code, h with
  | _ + 3, _ => rfl

/-- One is counted for each coordinate set to a limit. -/
theorem clampVertex_count (p : Vertex) :
    (clampVertex p).2 = (if p.x < 0 ∨ 1535 < p.x then 1 else 0) + if p.y < 0 ∨ 1023 < p.y then 1 else 0 := by
  simp only [clampVertex, clampInt_eq_iff (show (0 : Int) ≤ 1535 by decide),
    clampInt_eq_iff (show (0 : Int) ≤ 1023 by decide), ite_not]

theorem adjustedCoordinates_eq (vs : List Vertex) :
    adjustedCoordinates vs = (vs.filter fun p => decide (p.x < 0 ∨ 1535 < p.x)).length
      + (vs.filter fun p => decide (p.y < 0 ∨ 1023 < p.y)).length := by
  induction vs with
  | nil => rfl
  | cons p vs ih =>
    have hcons : adjustedCoordinates (p :: vs) = (clampVertex p).2 + adjustedCoordinates vs := List.sum_cons
    rw [hcons, clampVertex_count, ih]
    simp only [List.filter_cons, decide_eq_true_eq, apply_ite List.length, List.length_cons]
    split <;> split <;> omega

theorem doneOrClamped_decide (p : Prop) [Decidable p] : doneOrClamped p = if p then .clamped else .done := by
  simp [doneOrClamped]

theorem CoastStore.marked_eq {c : CoastStore} {i : Nat} {p : Polyline} (hi : c.marker = some i)
    (hp : c.polylines[i]? = some p) : c.marked = some (i, p) := by
  simp [CoastStore.marked, hi, hp]

/-- The three values every coast reply carries, while the store is LOADING (R45). -/
theorem coastFields_loading {c : CoastStore} (h : c.state = .loading) :
    coastFields c = [.octet 1, .num c.polylines.length, .num c.vertices.length] := by
  simp [coastFields, h, coastStateCode, field_forms]

section NewPart

variable {s : State} {code : Nat} {closed : Bool} {vs : List Vertex} {k : LineKind}

theorem coastLineNew_badLength (h : 2 < code ∨ vs.length < 2 ∨ 250 < vs.length) :
    coastLineNew code closed vs s = refuseLine s .badLength := by
  unfold coastLineNew
  cases hk : lineKindOfCode code with
  | none => rfl
  | some k => exact if_pos (h.resolve_left fun hc => by simp [lineKindOfCode_none hc] at hk)

theorem coastLineNew_noLoad (hk : lineKindOfCode code = some k) (hn : ¬ (vs.length < 2 ∨ 250 < vs.length))
    (hl : s.coast.state ≠ .loading) : coastLineNew code closed vs s = refuseLine s .noLoad := by
  unfold coastLineNew
  rw [hk]
  exact (if_neg hn).trans (if_pos hl)

/-- The check left while the store is LOADING, and the polyline of its own that a taken part makes (R48). -/
theorem coastLineNew_loading (hk : lineKindOfCode code = some k) (hn : ¬ (vs.length < 2 ∨ 250 < vs.length))
    (hl : s.coast.state = .loading) :
    coastLineNew code closed vs s =
      if 512 ≤ s.coast.polylines.length ∨ 8192 < s.coast.vertices.length + vs.length then refuseLine s .coastFull
      else
        (s.withCoast { s.coast with
            vertices := s.coast.vertices ++ clampVertices vs
            polylines := s.coast.polylines ++
              [{ first := s.coast.vertices.length, count := vs.length, kind := k, closed := closed }]
            marker := some s.coast.polylines.length },
          { outcome := if 0 < adjustedCoordinates vs then .clamped else .done
            fields := [.octet 1, .num (s.coast.polylines.length + 1 : Nat),
              .num (s.coast.vertices.length + vs.length : Nat), .num (adjustedCoordinates vs),
              .num s.coast.polylines.length, .num vs.length] }) := by
  unfold coastLineNew
  rw [hk]
  refine (if_neg hn).trans ((if_neg (not_not_intro hl)).trans ?_)
  simp only [coastFields_loading, hl, List.length_append, length_clampVertices, doneOrClamped_decide, field_forms]
  rfl

end NewPart

section ContinuePart

variable {s : State} {vs : List Vertex} {i : Nat} {p : Polyline}

theorem coastLineContinue_badLength (h : vs.length < 1 ∨ 250 < vs.length) :
    coastLineContinue vs s = refuseLine s .badLength := if_pos h

theorem coastLineContinue_noLoad (hn : ¬ (vs.length < 1 ∨ 250 < vs.length))
    (h : s.coast.state ≠ .loading ∨ s.coast.marker = none) : coastLineContinue vs s = refuseLine s .noLoad := by
  refine (if_neg hn).trans ?_
  by_cases hl : s.coast.state = .loading
  · have hm : s.coast.marked = none := by simp [CoastStore.marked, h.resolve_left (not_not_intro hl)]
    rw [if_neg (not_not_intro hl), hm]
  · exact if_pos hl

/-- The checks left once the marked polyline is known (R49). -/
theorem coastLineContinue_marked (hn : ¬ (vs.length < 1 ∨ 250 < vs.length)) (hl : s.coast.state = .loading)
    (hi : s.coast.marker = some i) (hp : s.coast.polylines[i]? = some p) :
    coastLineContinue vs s =
      if 1024 < p.count + vs.length then refuseLine s .badLength
      else if 8192 < s.coast.vertices.length + vs.length then refuseLine s .coastFull
      else
        (s.withCoast { s.coast with
            vertices := s.coast.vertices ++ clampVertices vs
            polylines := s.coast.polylines.set i { p with count := p.count + vs.length } },
          { outcome := if 0 < adjustedCoordinates vs then .clamped else .done
            fields := [.octet 1, .num s.coast.polylines.length, .num (s.coast.vertices.length + vs.length : Nat),
              .num i, .num (p.count + vs.length : Nat), .num (adjustedCoordinates vs)] }) := by
  refine (if_neg hn).trans ((if_neg (not_not_intro hl)).trans ?_)
  rw [CoastStore.marked_eq hi hp]
  simp only [coastFields_loading, hl, List.length_append, List.length_set, length_clampVertices,
    doneOrClamped_decide, field_forms]
  rfl

end ContinuePart

/-- Settles O32: each check in its order, and the reply with the adjusted coordinates counted by axis. -/
theorem coastLinePartsAppend : Obligations.CoastLinePartsAppend := by
  refine ⟨fun code closed vs s hr => ⟨fun hbad => unlessFrozen_answered hr (coastLineNew_badLength hbad),
    fun k hk hlow hhigh => ?_⟩,
    fun vs s hr => ⟨fun hbad => unlessFrozen_answered hr (coastLineContinue_badLength hbad),
      fun hlow hhigh => ?_⟩⟩
  · have hn : ¬ (vs.length < 2 ∨ 250 < vs.length) := by omega
    refine ⟨fun hl => unlessFrozen_answered hr (coastLineNew_noLoad hk hn hl),
      fun hl hfull => unlessFrozen_answered hr ((coastLineNew_loading hk hn hl).trans (if_pos hfull)),
      fun hl hlines hvertices => unlessFrozen_answered hr
        ((coastLineNew_loading hk hn hl).trans ((if_neg (by omega)).trans ?_))⟩
    rw [adjustedCoordinates_eq]
    rfl
  · have hn : ¬ (vs.length < 1 ∨ 250 < vs.length) := by omega
    refine ⟨fun h => unlessFrozen_answered hr (coastLineContinue_noLoad hn h), fun i p hl hi hp => ?_⟩
    have hrun := coastLineContinue_marked hn hl hi hp
    refine ⟨fun hcount => unlessFrozen_answered hr (hrun.trans (if_pos hcount)),
      fun hcount hfull => unlessFrozen_answered hr (hrun.trans ((if_neg hcount.not_gt).trans (if_pos hfull))),
      fun hcount hfit => unlessFrozen_answered hr (hrun.trans ((if_neg hcount.not_gt).trans
        ((if_neg hfit.not_gt).trans ?_)))⟩
    rw [adjustedCoordinates_eq]
    rfl

end Sys2Proof.Machine
end

section
/-! PROOFS. The Area Map (O33) and the build of a context (O41). -/

namespace Sys2Proof.Machine

/-! ### The Area Map (R52, R53) -/

theorem adjustEntry_eq (e : MapEntry) :
    adjustEntry e = { area := if 31 < e.area then 0 else e.area, land := e.land } := by
  unfold adjustEntry; split <;> rfl

/-- The cells of a row from the first column on read as the entries adjusted, every other cell as before. -/
theorem storeGet_writeEntries {row col : Nat} {es : List MapEntry} (m : Store MapEntry) (hfit : col + es.length ≤ 96)
    {x y : Nat} (hx : x < 96) :
    storeGet seaCell (cellKey x y) (writeEntries row col es m) =
      if y = row ∧ col ≤ x ∧ x < col + es.length then adjustEntry (es.getD (x - col) seaCell)
      else storeGet seaCell (cellKey x y) m := by
  induction es generalizing col m with
  | nil => rw [if_neg (by simp)]; rfl
  | cons e es ih =>
    rw [List.length_cons] at hfit ⊢
    rw [writeEntries, ih _ (by omega)]
    by_cases hhere : y = row ∧ x = col
    · obtain ⟨rfl, rfl⟩ := hhere
      rw [if_neg (by omega), if_pos (by omega), storeGet_put_self, Nat.sub_self, List.getD_cons_zero]
    · rw [storeGet_put_ne _ fun he => hhere ((cellKey_inj hx (by omega)).1 he).symm]
      by_cases hlater : y = row ∧ col + 1 ≤ x ∧ x < col + 1 + es.length
      · rw [if_pos hlater, if_pos (by omega), show x - col = (x - (col + 1)) + 1 by omega, List.getD_cons_succ]
      · rw [if_neg hlater, if_neg (by omega)]

section Map

variable {s : State} {c r row col n : Nat} {es : List MapEntry}

/-- The check left on a DEFINED grid. -/
theorem areaMapBegin_grid {g : Grid} (hg : s.field.grid = some g) :
    areaMapBegin c r s =
      if c ≠ g.columns ∨ r ≠ g.rows then (s, refuse .gridMismatch)
      else ({ s with areaMap := some { columns := g.columns, rows := g.rows, cells := [] } },
        { outcome := .done, fields := [] }) := by
  unfold areaMapBegin
  rw [hg]

theorem areaMapRow_absent (hn : ¬ (n < 1 ∨ 96 < n ∨ es.length ≠ n)) (hm : s.areaMap = none) :
    areaMapRow row col n es s = (s, refuse .noLoad) := by
  refine (if_neg hn).trans ?_
  rw [hm]

/-- The check left on a PRESENT map. -/
theorem areaMapRow_present (hn : ¬ (n < 1 ∨ 96 < n ∨ es.length ≠ n)) {m : AreaMap} (hm : s.areaMap = some m) :
    areaMapRow row col n es s =
      if m.rows ≤ row ∨ m.columns < col + n then (s, refuse .gridMismatch)
      else ({ s with areaMap := some { m with cells := writeEntries row col es m.cells } },
        { outcome := if 0 < (es.filter fun e => decide (31 < e.area)).length then .clamped else .done
          fields := [.num (es.filter fun e => decide (31 < e.area)).length] }) := by
  refine (if_neg hn).trans ?_
  rw [hm]
  simp only [doneOrClamped_decide, field_forms]

end Map

/-- Settles O33. -/
theorem areaMapIsWritten : Obligations.AreaMapIsWritten := by
  refine fun s hr => ⟨fun c r => ⟨fun hg => unlessFrozen_answered hr ?_, fun g hg => ?_⟩, fun row col n es =>
    ⟨fun hbad => unlessFrozen_answered hr (if_pos hbad), fun hlow hhigh hlen => ?_⟩⟩
  · unfold areaMapBegin
    rw [hg]
    rfl
  · refine ⟨fun h => unlessFrozen_answered hr ((areaMapBegin_grid hg).trans (if_pos h)), ?_⟩
    rintro rfl rfl
    exact unlessFrozen_answered hr ((areaMapBegin_grid hg).trans (if_neg (by simp)))
  · have hn : ¬ (n < 1 ∨ 96 < n ∨ es.length ≠ n) := by omega
    refine ⟨fun hm => unlessFrozen_answered hr (areaMapRow_absent hn hm), fun m hm => ?_⟩
    have hrun := areaMapRow_present (row := row) (col := col) hn hm
    refine ⟨fun h => unlessFrozen_answered hr (hrun.trans (if_pos h)), fun hrow hcol hcolumns =>
      ⟨writeEntries row col es m.cells, unlessFrozen_answered hr (hrun.trans (if_neg (by omega))),
        storeWf_writeEntries row col es, fun x y hx => ?_⟩⟩
    subst hlen
    exact (storeGet_writeEntries m.cells (by omega) hx).trans (by rw [adjustEntry_eq]; rfl)

/-! ### The build of a context (R96, R98) -/

/-- A first READY hour is that of one reference only: the hours of the Timeline differ (R10). -/
theorem FieldView.Sound.isFirstReady_unique {v : FieldView} (hv : v.Sound) {lo hi : Nat} {q r : SlotRef}
    (hq : v.field.IsFirstReady lo hi q) (hr : v.field.IsFirstReady lo hi r) : q = r := by
  have hour : q.hour = r.hour :=
    le_antisymm (hq.first r.slot r.hour hr.ready hr.names.1 hr.range.1 hr.range.2)
      (hr.first q.slot q.hour hq.ready hq.names.1 hq.range.1 hq.range.2)
  have slot : q.slot = r.slot :=
    hv.eq_of_hourOf ((hv.ready _).1 hq.ready) ((hv.ready _).1 hr.ready)
      (by simp [FieldStore.hourOf, hq.names.1, hr.names.1, hour])
  have generation : q.generation = r.generation := by rw [← hq.names.2, ← hr.names.2, slot]
  exact (SlotRef.mk.injEq ..).mpr ⟨slot, hour, generation⟩

/-- The first step of the Timeline in a range is the READY slot of its smallest hour: the Timeline ascends
(R10, R14). -/
theorem FieldView.Sound.isFirstReady_of_resolve {v : FieldView} (hv : v.Sound) {lo hi : Nat} {r : SlotRef}
    (h : v.field.resolve lo hi = some r) : v.field.IsFirstReady lo hi r := by
  obtain ⟨i, hfind, rfl⟩ := Option.map_eq_some_iff.1 h
  obtain ⟨hin, before, after, htimeline, hnot⟩ := List.find?_eq_some_iff_append.1 hfind
  have hmem : i ∈ v.field.timeline := htimeline ▸ List.mem_append_right _ List.mem_cons_self
  refine ⟨(hv.ready i).2 hmem, ⟨hv.hour_of_mem hmem, rfl⟩, by simpa [FieldStore.refTo] using hin,
    fun j k hj hk hlo hhi => ?_⟩
  have hour : v.field.hourOf j = k := by simp [FieldStore.hourOf, hk]
  have hascending := (List.pairwise_append.1 (htimeline ▸ hv.ascending)).2.1
  rcases List.mem_append.1 (htimeline ▸ (hv.ready j).1 hj) with hb | ha
  · have := hnot j hb
    simp [hour, hlo, hhi] at this
  · rcases List.mem_cons.1 ha with rfl | ha
    · exact hour.le
    · exact hour ▸ ((List.pairwise_cons.1 hascending).1 j ha).le

theorem FieldView.Sound.resolve_eq_some_iff {v : FieldView} (hv : v.Sound) {lo hi : Nat} {r : SlotRef} :
    v.field.resolve lo hi = some r ↔ v.field.IsFirstReady lo hi r := by
  refine ⟨hv.isFirstReady_of_resolve, fun hr => ?_⟩
  cases h : v.field.resolve lo hi with
  | none =>
    have hmem := (hv.ready _).1 hr.ready
    have hour : v.field.hourOf r.slot = r.hour := by simp [FieldStore.hourOf, hr.names.1]
    exact absurd (hour ▸ hr.range) (v.field.resolve_none h _ hmem)
  | some q => rw [hv.isFirstReady_unique (hv.isFirstReady_of_resolve h) hr]

theorem FieldStore.resolvePair_fst (f : FieldStore) (lo hi : Nat) : (f.resolvePair lo hi).1 = f.resolve lo hi := by
  unfold FieldStore.resolvePair
  split <;> simp [*]

theorem effectiveStart_eq (p : Page) (k : Option Nat) :
    effectiveStart p k = min p.last (max p.first (match k, p.start with
      | some h, _ => h
      | none, some h => h
      | none, none => p.first)) := by
  unfold effectiveStart
  cases k with
  | some h => rfl
  | none => cases p.start <;> rfl

/-- Settles O41. -/
theorem contextBuilt : Obligations.ContextBuilt := by
  intro s i p o k hs wanted start x
  have hv : s.view.Sound := s.fieldSound_iff_view.1 hs
  have hstart : effectiveStart p k = start := effectiveStart_eq p k
  have hpair : s.field.resolvePair start p.last = (x.stepA, x.stepB) := hstart ▸ rfl
  refine ⟨rfl, rfl, rfl, rfl, hstart, rfl, rfl, rfl, rfl, fun a => ?_, fun a ha b => ?_, fun hnone => ?_⟩
  · have hfirst : s.field.resolve start p.last = x.stepA := by rw [← FieldStore.resolvePair_fst, hpair]
    rw [← hfirst]
    exact hv.resolve_eq_some_iff
  · rw [ha] at hpair
    rw [(s.field.resolvePair_some hpair).2]
    exact hv.resolve_eq_some_iff
  · rw [hnone] at hpair
    exact s.field.resolvePair_none hpair

end Sys2Proof.Machine
end

section
/-! PROOFS. The window cut (O34): the rounded quotient, the clipping against one edge and against the four, the pieces
of the store, and the completion of a cut. -/

namespace Sys2Proof.Machine

/-! ### The quotient of a crossing (R58) -/

/-- `q` is the quotient `n / d` rounded to nearest, half away from zero. -/
def RoundedQuotient (n d q : Int) : Prop :=
  2 * (n - q * d).natAbs ≤ d.natAbs ∧ (2 * (n - q * d).natAbs = d.natAbs → n.natAbs < (q * d).natAbs)

/-- The rounded quotient times the divisor: the quotient of the magnitudes, with the sign of the dividend. -/
theorem divHalfAway_mul {n d : Int} (hd : d ≠ 0) :
    divHalfAway n d * d =
      (if n < 0 then -1 else 1) * ((2 * n.natAbs + d.natAbs) / (2 * d.natAbs) * d.natAbs : Nat) := by
  unfold divHalfAway
  rcases hd.lt_or_gt with hneg | hpos
  · have habs : (d.natAbs : Int) = -d := Int.ofNat_natAbs_of_nonpos hneg.le
    by_cases hn : n < 0 <;> simp [hn, hneg, habs]
  · have habs : (d.natAbs : Int) = d := Int.natAbs_of_nonneg hpos.le
    by_cases hn : n < 0 <;> simp [hn, hpos.not_gt, habs]

theorem roundedQuotient_divHalfAway {n d : Int} (hd : d ≠ 0) : RoundedQuotient n d (divHalfAway n d) := by
  have hpos : 0 < d.natAbs := Int.natAbs_pos.2 hd
  have hle := Nat.div_mul_le_self (2 * n.natAbs + d.natAbs) (2 * d.natAbs)
  have hlt := Nat.lt_div_mul_add (a := 2 * n.natAbs + d.natAbs) (b := 2 * d.natAbs) (by omega)
  rw [Nat.mul_left_comm] at hle hlt
  unfold RoundedQuotient
  rw [divHalfAway_mul hd]
  generalize (2 * n.natAbs + d.natAbs) / (2 * d.natAbs) * d.natAbs = m at *
  split <;> omega

theorem RoundedQuotient.neg {n d q : Int} (h : RoundedQuotient n d q) : RoundedQuotient (-n) (-d) q := by
  unfold RoundedQuotient at h ⊢
  rw [Int.mul_neg]
  omega

/-- A share `t / d` of a length, rounded, lies between 0 and the length. -/
theorem RoundedQuotient.mem_uIcc {D t d q : Int} (h : RoundedQuotient (D * t) d q) (hd : d ≠ 0)
    (ht : t ∈ Set.uIcc 0 d) : q ∈ Set.uIcc 0 D := by
  wlog hpos : 0 < d generalizing t d
  · have ht' : -t ∈ Set.uIcc 0 (-d) := by rw [Set.mem_uIcc] at ht ⊢; omega
    exact this (by rw [Int.mul_neg]; exact h.neg) (neg_ne_zero.2 hd) ht' (by omega)
  rw [Set.uIcc_of_le hpos.le] at ht
  obtain ⟨h0, hd'⟩ := ht
  have hlow : min 0 D * d ≤ D * t :=
    (Int.mul_le_mul_of_nonpos_left (min_le_left 0 D) hd').trans (Int.mul_le_mul_of_nonneg_right (min_le_right 0 D) h0)
  have hhigh : D * t ≤ max 0 D * d :=
    (Int.mul_le_mul_of_nonneg_right (le_max_right 0 D) h0).trans (Int.mul_le_mul_of_nonneg_left hd' (le_max_left 0 D))
  have hround := h.1
  constructor
  · by_contra hlt
    have := Int.mul_le_mul_of_nonneg_right (Int.add_one_le_of_lt (not_le.1 hlt)) hpos.le
    rw [Int.add_mul] at this
    omega
  · by_contra hlt
    have := Int.mul_le_mul_of_nonneg_right (Int.add_one_le_of_lt (not_le.1 hlt)) hpos.le
    rw [Int.add_mul] at this
    omega

/-- A segment from `c` to `f` crosses a line between `a` and `b` at a point between `c` and `f`. -/
theorem crossing_mem_uIcc {a b c f e : Int} (hne : a ≠ b) (he : e ∈ Set.uIcc a b) :
    c + divHalfAway ((f - c) * (e - a)) (b - a) ∈ Set.uIcc c f := by
  have ht : e - a ∈ Set.uIcc 0 (b - a) := by rw [Set.mem_uIcc] at he ⊢; omega
  have hd : b - a ≠ 0 := by omega
  have hq := (roundedQuotient_divHalfAway (n := (f - c) * (e - a)) hd).mem_uIcc hd ht
  rw [Set.mem_uIcc] at hq ⊢
  omega

/-! ### Clipping against one edge (R58) -/

/-- A vertex with its two coordinates exchanged. -/
def transposeVertex (p : Vertex) : Vertex := { x := p.y, y := p.x }

/-- A segment with the coordinates of its ends exchanged. -/
def Segment.transpose (g : Segment) : Segment := (transposeVertex g.1, transposeVertex g.2)

theorem clipY_eq_clipX (inside : Int → Bool) (e : Int) (g : Segment) :
    clipY inside e g = (clipX inside e g.transpose).map Segment.transpose := by
  obtain ⟨a, b⟩ := g
  simp only [clipX, clipY, Segment.transpose, transposeVertex]
  cases inside a.y <;> cases inside b.y <;> rfl

/-- The vertices between the ends of a segment in both coordinates. -/
def Segment.Spans (g : Segment) (p : Vertex) : Prop :=
  p.x ∈ Set.uIcc g.1.x g.2.x ∧ p.y ∈ Set.uIcc g.1.y g.2.y

/-- An interval of x that holds the ends of a segment holds every vertex between them. -/
theorem Segment.spans_x_mem {g h : Segment} {I : Set Int} (hI : I.OrdConnected) (hg : g.1.x ∈ I ∧ g.2.x ∈ I)
    (hh : g.Spans h.1 ∧ g.Spans h.2) : h.1.x ∈ I ∧ h.2.x ∈ I :=
  ⟨hI.uIcc_subset hg.1 hg.2 hh.1.1, hI.uIcc_subset hg.1 hg.2 hh.2.1⟩

theorem Segment.spans_y_mem {g h : Segment} {I : Set Int} (hI : I.OrdConnected) (hg : g.1.y ∈ I ∧ g.2.y ∈ I)
    (hh : g.Spans h.1 ∧ g.Spans h.2) : h.1.y ∈ I ∧ h.2.y ∈ I :=
  ⟨hI.uIcc_subset hg.1 hg.2 hh.1.2, hI.uIcc_subset hg.1 hg.2 hh.2.2⟩

section Edge

variable {inside : Int → Bool} {e : Int} {a b : Vertex} {g h : Segment}

theorem clipX_inside (ha : inside a.x = true) (hb : inside b.x = true) : clipX inside e (a, b) = some (a, b) := by
  simp [clipX, ha, hb]

theorem clipX_outside (ha : inside a.x = false) (hb : inside b.x = false) : clipX inside e (a, b) = none := by
  simp [clipX, ha, hb]

/-- A segment across the line keeps its inside end and gains the point on the line. -/
theorem clipX_across (hne : inside a.x ≠ inside b.x) :
    clipX inside e (a, b) = some
      (if inside a.x then (a, ⟨e, a.y + divHalfAway ((b.y - a.y) * (e - a.x)) (b.x - a.x)⟩)
        else (⟨e, a.y + divHalfAway ((b.y - a.y) * (e - a.x)) (b.x - a.x)⟩, b)) := by
  cases ha : inside a.x <;> cases hb : inside b.x <;> simp_all [clipX]

theorem clipY_inside (ha : inside a.y = true) (hb : inside b.y = true) : clipY inside e (a, b) = some (a, b) := by
  rw [clipY_eq_clipX]
  exact congrArg (Option.map Segment.transpose) (clipX_inside ha hb)

theorem clipY_outside (ha : inside a.y = false) (hb : inside b.y = false) : clipY inside e (a, b) = none := by
  rw [clipY_eq_clipX]
  exact congrArg (Option.map Segment.transpose) (clipX_outside ha hb)

theorem clipY_across (hne : inside a.y ≠ inside b.y) :
    clipY inside e (a, b) = some
      (if inside a.y then (a, ⟨a.x + divHalfAway ((b.x - a.x) * (e - a.y)) (b.y - a.y), e⟩)
        else (⟨a.x + divHalfAway ((b.x - a.x) * (e - a.y)) (b.y - a.y), e⟩, b)) := by
  rw [clipY_eq_clipX]
  refine (congrArg (Option.map Segment.transpose)
    (clipX_across (a := transposeVertex a) (b := transposeVertex b) hne)).trans (congrArg some ?_)
  exact apply_ite Segment.transpose ..

/-- What survives lies between the ends of the segment, and inside the edge. -/
theorem clipX_some (hclip : clipX inside e g = some h) (he : inside e = true)
    (hcross : inside g.1.x ≠ inside g.2.x → e ∈ Set.uIcc g.1.x g.2.x) :
    (g.Spans h.1 ∧ g.Spans h.2) ∧ inside h.1.x = true ∧ inside h.2.x = true := by
  obtain ⟨a, b⟩ := g
  have hstart : Segment.Spans (a, b) a := ⟨Set.left_mem_uIcc, Set.left_mem_uIcc⟩
  have hfinish : Segment.Spans (a, b) b := ⟨Set.right_mem_uIcc, Set.right_mem_uIcc⟩
  by_cases hne : inside a.x = inside b.x
  · cases ha : inside a.x with
    | true =>
      obtain rfl : (a, b) = h := by simpa [clipX_inside ha (hne ▸ ha)] using hclip
      exact ⟨⟨hstart, hfinish⟩, ha, hne ▸ ha⟩
    | false => simp [clipX_outside ha (hne ▸ ha)] at hclip
  · have hpoint := crossing_mem_uIcc (c := a.y) (f := b.y) (fun hx => hne (congrArg inside hx)) (hcross hne)
    rw [clipX_across hne, Option.some.injEq] at hclip
    subst hclip
    cases ha : inside a.x with
    | true => exact ⟨⟨hstart, hcross hne, hpoint⟩, ha, he⟩
    | false => exact ⟨⟨⟨hcross hne, hpoint⟩, hfinish⟩, he, by simpa [ha] using hne⟩

theorem clipY_some (hclip : clipY inside e g = some h) (he : inside e = true)
    (hcross : inside g.1.y ≠ inside g.2.y → e ∈ Set.uIcc g.1.y g.2.y) :
    (g.Spans h.1 ∧ g.Spans h.2) ∧ inside h.1.y = true ∧ inside h.2.y = true := by
  rw [clipY_eq_clipX] at hclip
  obtain ⟨k, hk, rfl⟩ := Option.map_eq_some_iff.1 hclip
  obtain ⟨⟨hstart, hfinish⟩, hinside⟩ := clipX_some hk he hcross
  exact ⟨⟨hstart.symm, hfinish.symm⟩, hinside⟩

end Edge

/-! ### Clipping against the four edges (R57, R58) -/

/-- The vertices of the cut rectangle. -/
def ChartWindow.Holds (w : ChartWindow) (p : Vertex) : Prop :=
  cutLeft w ≤ p.x ∧ p.x ≤ cutRight w ∧ cutTop w ≤ p.y ∧ p.y ≤ cutBottom w

/-- A segment with one end on each side of a line meets it between its ends. -/
theorem mem_uIcc_of_across {e x y : Int}
    (h : decide (e ≤ x) ≠ decide (e ≤ y) ∨ decide (x ≤ e) ≠ decide (y ≤ e)) : e ∈ Set.uIcc x y := by
  simp only [ne_eq, decide_eq_decide] at h
  rw [Set.mem_uIcc]
  omega

theorem clipSegment_inside {w : ChartWindow} {a b : Vertex} (ha : w.Holds a) (hb : w.Holds b) :
    clipSegment w (a, b) = some (a, b) := by
  obtain ⟨hal, har, hat, hab⟩ := ha
  obtain ⟨hbl, hbr, hbt, hbb⟩ := hb
  simp [clipSegment, clipX, clipY, *]

/-- What survives the four edges lies in the cut rectangle: each clipping keeps it between the ends it had. -/
theorem clipSegment_holds {w : ChartWindow} {g h : Segment} (hclip : clipSegment w g = some h) :
    w.Holds h.1 ∧ w.Holds h.2 := by
  obtain ⟨g₁, h₁, hclip⟩ := Option.bind_eq_some_iff.1 hclip
  obtain ⟨g₂, h₂, hclip⟩ := Option.bind_eq_some_iff.1 hclip
  obtain ⟨g₃, h₃, h₄⟩ := Option.bind_eq_some_iff.1 hclip
  obtain ⟨-, left⟩ := clipX_some h₁ (decide_eq_true le_rfl) fun hne => mem_uIcc_of_across (.inl hne)
  obtain ⟨span₂, right⟩ := clipX_some h₂ (decide_eq_true le_rfl) fun hne => mem_uIcc_of_across (.inr hne)
  obtain ⟨span₃, top⟩ := clipY_some h₃ (decide_eq_true le_rfl) fun hne => mem_uIcc_of_across (.inl hne)
  obtain ⟨span₄, bottom⟩ := clipY_some h₄ (decide_eq_true le_rfl) fun hne => mem_uIcc_of_across (.inr hne)
  simp only [decide_eq_true_eq] at left right top bottom
  obtain ⟨hleft, hleft'⟩ := Segment.spans_x_mem Set.ordConnected_Ici
    (Segment.spans_x_mem Set.ordConnected_Ici (Segment.spans_x_mem Set.ordConnected_Ici left span₂) span₃) span₄
  obtain ⟨hright, hright'⟩ :=
    Segment.spans_x_mem Set.ordConnected_Iic (Segment.spans_x_mem Set.ordConnected_Iic right span₃) span₄
  obtain ⟨htop, htop'⟩ := Segment.spans_y_mem Set.ordConnected_Ici top span₄
  exact ⟨⟨hleft, hright, htop, bottom.1⟩, ⟨hleft', hright', htop', bottom.2⟩⟩

/-! ### The pieces of the store (R46, R57, R59) -/

/-- The closing segment of a closed polyline of three or more vertices: from its last vertex to its first. -/
def closingSegment (closed : Bool) : List Vertex → List Segment
  | a :: _ :: b :: rest => if closed then [((b :: rest).getLast (List.cons_ne_nil b rest), a)] else []
  | _ => []

theorem closingSegment_eq (closed : Bool) (vs : List Vertex) :
    (if closed ∧ 3 ≤ vs.length then vs.getLast?.toList.zip vs.head?.toList else []) = closingSegment closed vs := by
  match vs with
  | [] | [_] | [_, _] => simp [closingSegment]
  | a :: m :: b :: rest => simp [closingSegment, List.getLast?_eq_some_getLast]

section Pieces

variable {c : CoastStore} {w : ChartWindow}

theorem polylineSegments_eq (l : Polyline) :
    polylineSegments c l = (polylineVertices c l).zip (polylineVertices c l).tail
      ++ closingSegment l.closed (polylineVertices c l) :=
  congrArg (_ ++ ·) (closingSegment_eq l.closed _)

theorem polylinePieces_eq (l : Polyline) (i : Nat) :
    polylinePieces c w l i = (polylineSegments c l).filterMap fun g => (clipSegment w g).bind fun h =>
      if h.1 = h.2 then none else some { kind := l.kind, polyline := i, start := h.1, finish := h.2 } := by
  refine congrArg (fun f => (polylineSegments c l).filterMap f) (funext fun g => ?_)
  cases clipSegment w g <;> rfl

/-- A piece is a survivor with two different ends of a polyline of the store. -/
theorem mem_allPieces {p : Piece} (hp : p ∈ allPieces c w) :
    (∃ l, c.polylines[p.polyline]? = some l ∧ l.kind = p.kind) ∧ p.start ≠ p.finish
      ∧ ∃ g, clipSegment w g = some (p.start, p.finish) := by
  obtain ⟨⟨l, i⟩, hl, hp⟩ := List.mem_flatMap.1 hp
  rw [polylinePieces_eq] at hp
  obtain ⟨g, -, hg⟩ := List.mem_filterMap.1 hp
  obtain ⟨h, hclip, hpiece⟩ := Option.bind_eq_some_iff.1 hg
  obtain ⟨hne, rfl⟩ : h.1 ≠ h.2 ∧ { kind := l.kind, polyline := i, start := h.1, finish := h.2 } = p := by
    simpa using hpiece
  exact ⟨⟨l, List.mem_zipIdx_iff_getElem?.1 hl, rfl⟩, hne, g, hclip⟩

theorem allPieces_hold {p : Piece} (hp : p ∈ allPieces c w) : w.Holds p.start ∧ w.Holds p.finish := by
  obtain ⟨-, -, g, hclip⟩ := mem_allPieces hp
  exact clipSegment_holds hclip

/-- A window with no cell cuts no piece: its rectangle holds no vertex. -/
theorem allPieces_empty (h : w.width = 0 ∨ w.height = 0) : allPieces c w = [] := by
  refine List.eq_nil_iff_forall_not_mem.2 fun p hp => ?_
  obtain ⟨⟨hleft, hright, htop, hbottom⟩, -⟩ := allPieces_hold hp
  unfold cutLeft at hleft
  unfold cutRight at hright
  unfold cutTop at htop
  unfold cutBottom at hbottom
  omega

end Pieces

/-! ### The completion of a cut (R59, R60, R104) -/

section Completion

variable {s : State} {place : ContextPlace} {x : Context}

theorem State.completeCut_idle (h : ∀ x, s.ctl.at place = some x → x.coast.cut ≠ .cutting) :
    s.completeCut place = s := by
  unfold State.completeCut
  cases hx : s.ctl.at place with
  | none => rfl
  | some x => exact if_neg (h x hx)

theorem State.completeCut_cutting (hx : s.ctl.at place = some x) (hcut : x.coast.cut = .cutting)
    (hplace : place ≠ .next) :
    s.completeCut place = s.withCtl (s.ctl.put place { x with coast := completedCut s.coast x.window }) := by
  unfold State.completeCut
  rw [hx]
  exact (if_pos hcut).trans (if_neg hplace)

/-- NEXT with its cut completed is answered (R104). -/
theorem State.completeCut_next (hx : s.ctl.next = some x) (hcut : x.coast.cut = .cutting) :
    s.completeCut .next =
      (s.withCtl { s.ctl with
        next := some { x with
          coast := completedCut s.coast x.window
          prep := if x.prep = some .preparing then some .ready else x.prep } }).raiseIf
        (decide (x.prep = some .preparing)) .nextReady := by
  have hrun : s.completeCut .next
      = (s.withCtl (s.ctl.put .next { x with coast := completedCut s.coast x.window })).answerNext := by
    unfold State.completeCut
    rw [show s.ctl.at .next = some x from hx]
    exact if_pos hcut
  have hprepared : Context.prepared { x with coast := completedCut s.coast x.window } = { x with
      coast := completedCut s.coast x.window
      prep := if x.prep = some .preparing then some .ready else x.prep } := by
    unfold Context.prepared
    split <;> rfl
  rw [hrun, State.answerNext_eq, ← hprepared]
  rfl

end Completion

/-- Settles O34: what a cut's completion gives in each place, the pieces as the survivors of the clipping, and the
clipping against one edge. -/
theorem cutFillsCutList : Obligations.CutFillsCutList := by
  refine ⟨?_, ?_, ?_⟩
  · intro s hr cut
    have hrun {place : ContextPlace} {t : State} (h : s.completeCut place = t) :
        exec (.windowCutCompletion place) s = .next t := h ▸ unlessFrozen_eq s hr
    exact ⟨fun place h => hrun (State.completeCut_idle h),
      fun x hx hcut => hrun (State.completeCut_cutting hx hcut (by decide)),
      fun i x hx hcut => hrun (State.completeCut_cutting (congrArg Option.join hx) hcut nofun),
      fun x hx hcut => hrun (State.completeCut_next (x := x) hx hcut)⟩
  · intro c w left right top bottom inside clip segments pieces
    have hclip (g : Segment) : clip g = clipSegment w g := by
      simp only [clip, Option.bind_assoc]
      rfl
    have hsegments (l : Polyline) : segments l = polylineSegments c l := (polylineSegments_eq l).symm
    refine ⟨?_, fun p hp => ?_, fun a b ha hb => ?_, allPieces_empty⟩
    · simp only [pieces, hclip, hsegments, ← polylinePieces_eq]
      rfl
    · obtain ⟨hline, hne, -⟩ := mem_allPieces hp
      obtain ⟨hstart, hfinish⟩ := allPieces_hold hp
      exact ⟨hstart, hfinish, hne, hline⟩
    · rw [hclip]
      exact clipSegment_inside ha hb
  · intro inside e a b rounded
    have hd {n u v : Int} (h : inside u ≠ inside v) : rounded n (v - u) (divHalfAway n (v - u)) :=
      roundedQuotient_divHalfAway (sub_ne_zero.2 fun he => h (congrArg inside he.symm))
    exact ⟨clipX_inside, clipX_outside, fun h => ⟨_, hd h, clipX_across h⟩,
      clipY_inside, clipY_outside, fun h => ⟨_, hd h, clipY_across h⟩⟩

end Sys2Proof.Machine
end

section
/-! PROOFS. The arithmetic of the Cell Evaluator: the speed, raw force band and sector of a wind (O35), the blend and
the shown band (O36). -/

namespace Sys2Proof.Machine

/-! ### The speed of a wind (R70) -/

theorem windSpeed_eq_zero_iff (x : Wind) : windSpeed x = 0 ↔ x.u = 0 ∧ x.v = 0 := by
  unfold windSpeed windMajor windMinor
  omega

/-- The speed squared is at most 73/64 of the squared length: `8 s ≤ 8 M + 3 m`, and `73 = 8² + 3²`. -/
theorem windSpeed_sq_le (x : Wind) : 64 * windSpeed x ^ 2 ≤ 73 * (x.u.natAbs ^ 2 + x.v.natAbs ^ 2) := by
  have hsum : windMajor x ^ 2 + windMinor x ^ 2 = x.u.natAbs ^ 2 + x.v.natAbs ^ 2 := by
    unfold windMajor windMinor
    rcases le_total x.u.natAbs x.v.natAbs with h | h
    · rw [max_eq_right h, min_eq_left h, add_comm]
    · rw [max_eq_left h, min_eq_right h]
  have hs : 8 * windSpeed x ≤ 8 * windMajor x + 3 * windMinor x := by
    unfold windSpeed
    omega
  calc 64 * windSpeed x ^ 2 = (8 * windSpeed x) ^ 2 := by ring
    _ ≤ (8 * windMajor x + 3 * windMinor x) ^ 2 := Nat.pow_le_pow_left hs 2
    _ ≤ 73 * (windMajor x ^ 2 + windMinor x ^ 2) := by
      zify
      linarith [sq_nonneg (3 * (windMajor x : Int) - 8 * windMinor x)]
    _ = 73 * (x.u.natAbs ^ 2 + x.v.natAbs ^ 2) := by rw [hsum]

/-! ### Counting thresholds (R74, R80) -/

section Thresholds

variable {ts : List Nat} {s : Nat}

/-- The thresholds of an ascending list that are at most a value stand at its front. -/
theorem take_filter_le (h : ts.Pairwise (· < ·)) :
    ts.take (ts.filter fun t => decide (t ≤ s)).length = ts.filter fun t => decide (t ≤ s) := by
  induction ts with
  | nil => rfl
  | cons a ts ih =>
    obtain ⟨ha, hts⟩ := List.pairwise_cons.1 h
    by_cases has : a ≤ s
    · simpa [has] using ih hts
    · have hnil : (ts.filter fun t => decide (t ≤ s)) = [] :=
        List.filter_eq_nil_iff.2 fun t ht => by have := ha t ht; simp; omega
      simp [has, hnil]

/-- A threshold of an ascending list is at most a value exactly when it is one of those counted, by its place. -/
theorem threshold_le_iff (h : ts.Pairwise (· < ·)) {i t : Nat} (ht : ts[i]? = some t) :
    t ≤ s ↔ i < (ts.filter fun t => decide (t ≤ s)).length := by
  induction ts generalizing i with
  | nil => simp at ht
  | cons a ts ih =>
    obtain ⟨ha, hts⟩ := List.pairwise_cons.1 h
    by_cases has : a ≤ s
    · cases i with
      | zero => simp_all
      | succ i => simpa [has] using ih hts (by simpa using ht)
    · have hlater : ∀ t ∈ a :: ts, s < t := fun t ht => by
        rcases List.mem_cons.1 ht with rfl | ht
        · omega
        · have := ha t ht; omega
      have hnil : ((a :: ts).filter fun t => decide (t ≤ s)) = [] :=
        List.filter_eq_nil_iff.2 fun t ht => by simpa using hlater t ht
      simpa [hnil] using hlater t (List.mem_of_getElem? ht)

end Thresholds

theorem BandSettings.forceTable_eq (b : BandSettings) : b.forceTable = b.force.map Int.ofNat := by
  simp [BandSettings.forceTable, List.map_eq_flatMap]

theorem rawForceBand_eq (b : BandSettings) (x : Wind) :
    rawForceBand b x = (b.force.filter fun t => decide (t ≤ windSpeed x)).length := by
  simp [rawForceBand, bandOf, BandSettings.forceTable_eq, List.filter_map, Function.comp_def]

/-! ### The sector of a wind (R71, R72) -/

theorem windDirection_eq (x : Wind) :
    windDirection x = if x.u = 0 ∧ x.v = 0 then .calm else .sector (sectorIndex x) := by
  simp only [windDirection, windSpeed_eq_zero_iff]

theorem windDirection_sector {x : Wind} (h : ¬ (x.u = 0 ∧ x.v = 0)) : windDirection x = .sector (sectorIndex x) := by
  rw [windDirection_eq, if_neg h]

/-- A quarter turn of a wind: the new u is the old v, the new v the negated old u. -/
def quarterTurn (x : Wind) : Wind := { u := x.v, v := -x.u }

theorem fineClass_quarterTurn (x : Wind) : fineClass (quarterTurn x) = fineClass x := by
  have hmajor : windMajor (quarterTurn x) = windMajor x := by simp [windMajor, quarterTurn, max_comm]
  have hminor : windMinor (quarterTurn x) = windMinor x := by simp [windMinor, quarterTurn, min_comm]
  rw [fineClass, fineClass, hmajor, hminor]

theorem fineClass_le (x : Wind) : fineClass x ≤ 2 := by
  unfold fineClass
  split_ifs <;> omega

/-- On a diagonal the fine class is 2, where the halves of the table agree. -/
theorem fineClass_diagonal {x : Wind} (h : x.u.natAbs = x.v.natAbs) (hx : ¬ (x.u = 0 ∧ x.v = 0)) :
    fineClass x = 2 := by
  have hpos : x.v.natAbs ≠ 0 := by omega
  unfold fineClass windMajor windMinor
  rw [if_neg (by omega), if_neg (by omega)]

/-- On an axis the fine class is 0, where the signs of the other component agree. -/
theorem fineClass_axis {x : Wind} (h : x.u = 0 ∨ x.v = 0) (hx : ¬ (x.u = 0 ∧ x.v = 0)) : fineClass x = 0 := by
  unfold fineClass windMajor windMinor
  exact if_pos (by omega)

theorem sectorIndex_lt (x : Wind) : sectorIndex x < 16 := by
  have := fineClass_le x
  unfold sectorIndex
  dsimp only
  split_ifs <;> omega

/-- R72's table where v is dominant. -/
theorem sectorIndex_vDominant {x : Wind} (h : x.u.natAbs ≤ x.v.natAbs) :
    sectorIndex x =
      if 0 < x.v then (if 0 ≤ x.u then fineClass x else (16 - fineClass x) % 16)
      else (if 0 < x.u then 8 - fineClass x else 8 + fineClass x) := if_pos h

/-- R72's table where u is dominant. -/
theorem sectorIndex_uDominant {x : Wind} (h : x.v.natAbs < x.u.natAbs) :
    sectorIndex x =
      if 0 < x.u then (if 0 ≤ x.v then 4 - fineClass x else 4 + fineClass x)
      else (if 0 ≤ x.v then 12 + fineClass x else 12 - fineClass x) := if_neg h.not_ge

/-- A quarter turn exchanges the dominant axis; on a diagonal the two halves of the table agree. -/
theorem sectorIndex_quarterTurn {x : Wind} (hx : ¬ (x.u = 0 ∧ x.v = 0)) :
    sectorIndex (quarterTurn x) = (sectorIndex x + 4) % 16 := by
  have hturn := fineClass_quarterTurn x
  have hle := fineClass_le x
  have haxis := fun h => fineClass_axis (x := x) h hx
  have hu : (quarterTurn x).u = x.v := rfl
  have hv : (quarterTurn x).v = -x.u := rfl
  rcases lt_trichotomy x.u.natAbs x.v.natAbs with h | h | h
  · rw [sectorIndex_vDominant h.le, sectorIndex_uDominant (by omega), hturn]
    split_ifs <;> omega
  · have hdiagonal := fineClass_diagonal h hx
    rw [sectorIndex_vDominant h.le, sectorIndex_vDominant (x := quarterTurn x) (by omega), hturn, hdiagonal]
    split_ifs <;> omega
  · rw [sectorIndex_uDominant h, sectorIndex_vDominant (by omega), hturn]
    split_ifs <;> omega

/-- Settles O35: the raw band by the place of each threshold in the ascending list; the sectors by R72's table, whose
two halves agree on the diagonals. -/
theorem speedBandAndSector : Obligations.SpeedBandAndSector := by
  constructor
  · intro x M m s
    have hs : s = M + 3 * m / 8 := rfl
    refine ⟨hs, windSpeed_eq_zero_iff x, by omega, windSpeed_sq_le x, by omega, by omega, ?_⟩
    intro b hb r
    obtain ⟨⟨hlen, hasc, -⟩, -⟩ := hb
    have hr : r = (b.force.filter fun t => decide (t ≤ s)).length := rawForceBand_eq b x
    have hplace (i : Nat) (hi : i < 12) : (∀ t, b.force[i]? = some t → t ≤ s) ↔ i < r := by
      have ht := List.getElem?_eq_getElem (hlen.symm ▸ hi)
      rw [ht, hr, ← threshold_le_iff hasc ht]
      simp
    have hfirst : (∀ t, b.force[0]? = some t → s < t) ↔ ¬ ∀ t, b.force[0]? = some t → t ≤ s := by
      simp [List.getElem?_eq_getElem (show 0 < b.force.length by omega)]
    have hle : r ≤ 12 := hr ▸ hlen ▸ List.length_filter_le ..
    refine ⟨hr, hle, hr ▸ take_filter_le hasc, ?_, ?_⟩
    · rw [hfirst, hplace 0 (by omega)]
      omega
    · rw [hplace 11 (by omega)]
      omega
  · intro x
    have hsector {n : Nat} (hx : ¬ (x.u = 0 ∧ x.v = 0)) (h : sectorIndex x = n) : windDirection x = .sector n :=
      h ▸ windDirection_sector hx
    refine ⟨by simp [windDirection_eq], fun hx => ⟨sectorIndex x, sectorIndex_lt x, hsector hx rfl, ?_⟩, ?_⟩
    · rw [← sectorIndex_quarterTurn hx]
      exact windDirection_sector fun h => hx (by simpa [quarterTurn, and_comm] using h)
    · intro M m k
      refine ⟨fun h => ?_, fun h => ?_⟩
      · have htable := sectorIndex_vDominant h
        exact ⟨fun hv hu => hsector (by omega) (htable.trans ((if_pos hv).trans (if_pos hu))),
          fun hv hu => hsector (by omega) (htable.trans ((if_pos hv).trans (if_neg hu.not_ge))),
          fun hv hu => hsector (by omega) (htable.trans ((if_neg hv.not_gt).trans (if_pos hu))),
          fun hv hu => hsector (by omega) (htable.trans ((if_neg hv.not_gt).trans (if_neg hu.not_gt)))⟩
      · have htable := sectorIndex_uDominant h
        exact ⟨fun hu hv => hsector (by omega) (htable.trans ((if_pos hu).trans (if_pos hv))),
          fun hu hv => hsector (by omega) (htable.trans ((if_pos hu).trans (if_neg hv.not_ge))),
          fun hu hv => hsector (by omega) (htable.trans ((if_neg hu.not_gt).trans (if_pos hv))),
          fun hu hv => hsector (by omega) (htable.trans ((if_neg hu.not_gt).trans (if_neg hv.not_ge)))⟩

/-! ### The blend of two endpoints (R69) -/

/-- The blend is the exact mixture rounded: the error, in 256ths, is above minus a half and at most a half. -/
theorem blend_rounds (a b : Int) (w : Nat) :
    -128 < 256 * (blend a b w - a) - (b - a) * w ∧ 256 * (blend a b w - a) - (b - a) * w ≤ 128 := by
  unfold blend
  omega

/-- At a weight of less than 256 the exact mixture lies between the endpoints, and so does the blend. -/
theorem blend_between (a b : Int) {w : Nat} (h : w ≤ 255) : min a b ≤ blend a b w ∧ blend a b w ≤ max a b := by
  have hw : (w : Int) ≤ 256 := by omega
  obtain ⟨hlow, hhigh⟩ := blend_rounds a b w
  rcases le_total a b with hab | hab
  · have h0 : 0 ≤ (b - a) * (w : Int) := Int.mul_nonneg (by omega) (by omega)
    have h256 : (b - a) * (w : Int) ≤ (b - a) * 256 := Int.mul_le_mul_of_nonneg_left hw (by omega)
    omega
  · have h0 : (b - a) * (w : Int) ≤ 0 := Int.mul_nonpos_of_nonpos_of_nonneg (by omega) (by omega)
    have h256 : (b - a) * 256 ≤ (b - a) * (w : Int) := Int.mul_le_mul_of_nonpos_left (by omega) hw
    omega

theorem blend_zero (a b : Int) : blend a b 0 = a := by simp [blend]

/-! ### The shown band (R75) -/

/-- A larger value has at least as many thresholds below it. -/
theorem bandOf_mono (ts : List Int) {x y : Int} (h : x ≤ y) : bandOf ts x ≤ bandOf ts y :=
  (List.monotone_filter_right ts fun t ht => by simpa using (of_decide_eq_true ht).trans h).length_le

theorem shownBand_some (ts : List Int) (h p : Nat) (x : Int) :
    shownBand ts h (some p) x = max (bandOf ts (x - h)) (min p (bandOf ts (x + h))) := rfl

/-- Settles O36: the blend by its rounding bounds; the shown band by the counts, which grow with the value. -/
theorem blendAndShownBand : Obligations.BlendAndShownBand := by
  refine ⟨fun a b w hw => ?_, fun ts h memory x => ?_⟩
  · obtain ⟨hlow, hhigh⟩ := blend_between a b hw
    exact ⟨hlow, hhigh, blend_zero a b, blend_rounds a b w⟩
  · intro U D r shown
    have hU : U = bandOf ts (x - h) := by simp only [U, bandOf, le_sub_iff_add_le]
    have hD : D = bandOf ts (x + h) := by simp only [D, bandOf, sub_le_iff_le_add]
    have hr : r = bandOf ts x := rfl
    have hUr : U ≤ r := hU ▸ bandOf_mono ts (by omega)
    have hrD : r ≤ D := hD ▸ bandOf_mono ts (by omega)
    have hzero : h = 0 → U = r ∧ D = r := by
      rintro rfl
      simp [hU, hD, hr]
    cases memory with
    | none => exact ⟨hUr, hrD, hUr, hrD, fun _ => rfl, fun _ => rfl, nofun⟩
    | some p =>
      have hshown : shown = max U (min p D) := hU ▸ hD ▸ shownBand_some ts h p x
      refine ⟨hUr, hrD, by omega, by omega, nofun, fun h0 => ?_, fun q hq => ?_⟩
      · obtain ⟨hU', hD'⟩ := hzero h0
        omega
      · obtain rfl := Option.some.inj hq
        exact ⟨hshown, by omega⟩

end Sys2Proof.Machine
end

section
/-! PROOFS. BANDS_WRITE (O38): the adjustment of a threshold list threshold by threshold, and the settings stored. -/

namespace Sys2Proof.Machine

/-! ### The adjustment of a threshold list (R89, R90) -/

/-- Each threshold is raised above the final value of the one before it, then lowered to the cap that leaves room for
the rest. -/
theorem adjustThresholds_getD (top prev : Int) (ts : List Int) {i : Nat} (hi : i < ts.length) :
    (adjustThresholds top prev ts).getD i 0 =
      min (max (ts.getD i 0) ((prev :: adjustThresholds top prev ts).getD i 0 + 1)) (top - (ts.length - 1 - i)) := by
  induction ts generalizing prev i with
  | nil => exact absurd hi (Nat.not_lt_zero i)
  | cons t ts ih =>
    cases i with
    | zero => simp [adjustThresholds]
    | succ i =>
      have hroom : ((t :: ts).length - 1 - (i + 1 : Nat) : Int) = ts.length - 1 - i := by simp; omega
      rw [adjustThresholds, List.getD_cons_succ, List.getD_cons_succ, List.getD_cons_succ, hroom]
      exact ih _ (Nat.lt_of_succ_lt_succ hi)

theorem getD_cons_eq (a : Int) (l : List Int) (i : Nat) :
    (a :: l).getD i 0 = if i = 0 then a else l.getD (i - 1) 0 := by
  cases i <;> rfl

/-- An ascending list that does not pass the top leaves room below the top for all that follows its head. -/
theorem ascending_room {top t : Int} {ts : List Int} (h : (t :: ts).Pairwise (· < ·)) (htop : ∀ y ∈ t :: ts, y ≤ top) :
    t + ts.length ≤ top := by
  induction ts generalizing t with
  | nil => simpa using htop
  | cons a ts ih =>
    obtain ⟨ht, hts⟩ := List.pairwise_cons.1 h
    have hroom := ih hts fun y hy => htop y (List.mem_cons_of_mem t hy)
    have hlt := ht a List.mem_cons_self
    rw [List.length_cons]
    omega

/-- A list that is ascending from above the previous threshold and does not pass the top is left as it is. -/
theorem adjustThresholds_self {top prev : Int} {ts : List Int} (h : (prev :: ts).Pairwise (· < ·))
    (htop : ∀ t ∈ ts, t ≤ top) : adjustThresholds top prev ts = ts := by
  induction ts generalizing prev with
  | nil => rfl
  | cons t ts ih =>
    obtain ⟨hprev, hts⟩ := List.pairwise_cons.1 h
    have hroom := ascending_room hts htop
    have hlt := hprev t List.mem_cons_self
    have hx : min (max t (prev + 1)) (top - ts.length) = t := by omega
    rw [adjustThresholds, hx, ih hts fun y hy => htop y (List.mem_cons_of_mem t hy)]

theorem adjustTideList_getD {ts : List Int} (h : ts.length = 7) {i : Nat} (hi : i < 7) :
    (adjustTideList ts).getD i 0 =
      min (max (ts.getD i 0) ((if i = 0 then -1001 else (adjustTideList ts).getD (i - 1) 0) + 1))
        (2000 - (6 - (i : Int))) := by
  have hget := adjustThresholds_getD 2000 (-1001) ts (h ▸ hi)
  rw [getD_cons_eq, h] at hget
  exact hget

/-- The thresholds are natural numbers, so that each step of the adjustment is one of natural numbers. -/
theorem adjustForceList_getD {ts : List Nat} (h : ts.length = 12) {i : Nat} (hi : i < 12) :
    (adjustForceList ts).getD i 0 =
      min (max (ts.getD i 0) ((if i = 0 then 0 else (adjustForceList ts).getD (i - 1) 0) + 1)) (2062 - (11 - i)) := by
  have hlen : (ts.map Int.ofNat).length = 12 := by simp [h]
  have hget := adjustThresholds_getD 2062 0 (ts.map Int.ofNat) (hlen ▸ hi)
  have hnat (j : Nat) : (adjustForceList ts).getD j 0 = ((adjustThresholds 2062 0 (ts.map Int.ofNat)).getD j 0).toNat :=
    adjustForceList_eq ts ▸ List.getD_map _ 0 Int.toNat
  have hwritten : (ts.map Int.ofNat).getD i 0 = ts.getD i 0 := List.getD_map _ 0 Int.ofNat
  have hprev : 0 ≤ (adjustThresholds 2062 0 (ts.map Int.ofNat)).getD (i - 1) 0 := by
    obtain ⟨hlen', -, hall⟩ := adjustThresholds_ascending 2062 0 (ts.map Int.ofNat) (by simp [h])
    rw [List.getD_eq_getElem _ _ (by omega)]
    exact (hall _ (List.getElem_mem _)).1.le
  rw [getD_cons_eq, hlen, hwritten] at hget
  rw [hnat, hnat, hget]
  split_ifs <;> omega

theorem adjustForceList_self {ts : List Nat} (h : ts.Pairwise (· < ·)) (hrange : ∀ t ∈ ts, 1 ≤ t ∧ t ≤ 2062) :
    adjustForceList ts = ts := by
  have hints : ∀ t ∈ ts.map Int.ofNat, 0 < t ∧ t ≤ 2062 := by
    intro t ht
    obtain ⟨n, hn, rfl⟩ := List.mem_map.1 ht
    have := hrange n hn
    exact ⟨Int.ofNat_lt.2 this.1, Int.ofNat_le.2 this.2⟩
  have hasc : ((0 : Int) :: ts.map Int.ofNat).Pairwise (· < ·) :=
    List.pairwise_cons.2 ⟨fun t ht => (hints t ht).1, List.pairwise_map.2 (h.imp Int.ofNat_lt.2)⟩
  rw [adjustForceList_eq, adjustThresholds_self hasc fun t ht => (hints t ht).2]
  simp [Function.comp_def]

theorem adjustTideList_self {ts : List Int} (h : ts.Pairwise (· < ·)) (hrange : ∀ t ∈ ts, -1000 ≤ t ∧ t ≤ 2000) :
    adjustTideList ts = ts :=
  adjustThresholds_self (List.pairwise_cons.2 ⟨fun t ht => (hrange t ht).1, h⟩) fun t ht => (hrange t ht).2

/-! ### The settings stored (R88) -/

theorem galeModeOfCode_isSome (m : Nat) : (galeModeOfCode m).isSome = true ↔ m ≤ 1 := by
  match m with
  | 0 | 1 => decide
  | n + 2 => simp [galeModeOfCode]

theorem bandFieldsFit_iff (x : BandFields) :
    bandFieldsFit x = true ↔ (∀ l, x.force = some l → l.length = 12) ∧ (∀ l, x.tide = some l → l.length = 7)
      ∧ ∀ m, x.mode = some m → m ≤ 1 := by
  simp only [bandFieldsFit, Bool.and_eq_true, Option.all_eq_true, decide_eq_true_eq, galeModeOfCode_isSome, and_assoc]

/-- A value stored differs from the value written exactly when a list is adjusted or a number lies outside its
range. -/
theorem bandFieldsAdjusted_iff (x : BandFields) :
    bandFieldsAdjusted x = true ↔
      (∃ l, x.force = some l ∧ adjustForceList l ≠ l) ∨ (∃ l, x.tide = some l ∧ adjustTideList l ≠ l)
        ∨ (∃ h, x.forceHyst = some h ∧ 50 < h) ∨ (∃ h, x.tideHyst = some h ∧ 50 < h)
        ∨ (∃ h, x.slack = some h ∧ 100 < h) ∨ ∃ g, x.galeBand = some g ∧ (g = 0 ∨ 12 < g) := by
  simp only [bandFieldsAdjusted, Bool.or_eq_true, Option.any_eq_true, decide_eq_true_eq,
    clampNat_ne_iff (show 1 ≤ 12 by decide), Nat.lt_one_iff, or_assoc]

/-- The settings stored: an absent field keeps its value. -/
theorem BandSettings.write_eq (b : BandSettings) (x : BandFields) :
    b.write x =
      { force := (x.force.map adjustForceList).getD b.force
        tide := (x.tide.map adjustTideList).getD b.tide
        forceHyst := (x.forceHyst.map fun h => min 50 h).getD b.forceHyst
        tideHyst := (x.tideHyst.map fun h => min 50 h).getD b.tideHyst
        slack := (x.slack.map fun h => min 100 h).getD b.slack
        galeBand := (x.galeBand.map fun g => max 1 (min 12 g)).getD b.galeBand } := by
  obtain ⟨force, tide, forceHyst, tideHyst, slack, galeBand, mode⟩ := x
  refine (BandSettings.mk.injEq ..).mpr ⟨?_, ?_, ?_, ?_, ?_, ?_⟩
  · cases force <;> rfl
  · cases tide <;> rfl
  · cases forceHyst <;> rfl
  · cases tideHyst <;> rfl
  · cases slack <;> rfl
  · cases galeBand <;> rfl

theorem bandsWrite_refused {x : BandFields} {s : State} (h : bandFieldsFit x ≠ true) :
    bandsWrite x s = (s, refuse .badLength) := if_pos (by simpa using h)

/-- The evaluator after a BANDS_WRITE that is taken. -/
def Evaluator.write (e : Evaluator) (x : BandFields) : Evaluator :=
  { e with
    bands := e.bands.write x
    galeMode := match x.mode with
      | some m => (galeModeOfCode m).getD e.galeMode
      | none => e.galeMode }

theorem bandsWrite_taken {x : BandFields} {s : State} (h : bandFieldsFit x = true) :
    bandsWrite x s = ({ s with eval := s.eval.write x },
      { outcome := doneOrClamped (bandFieldsAdjusted x), fields := bandFieldsReply (s.eval.write x) }) :=
  if_neg (by simp [h])

/-- Settles O38: the request by its fit and its adjusted fields; the adjustment one threshold at a time. -/
theorem bandsWriteStores : Obligations.BandsWriteStores := by
  refine ⟨fun x s hr => ?_, fun ts h => ?_, fun ts h => ?_⟩
  · intro fit b e differs
    refine ⟨fun hfit => unlessFrozen_answered hr (bandsWrite_refused fun h => hfit ((bandFieldsFit_iff x).1 h)),
      fun hfit => ?_⟩
    obtain ⟨hcode, hclamped⟩ := doneOrClamped_cases (bandFieldsAdjusted x)
    have he : s.eval.write x = e := by
      refine (Evaluator.mk.injEq ..).mpr ⟨b.write_eq x, ?_, rfl, rfl⟩
      have hmode := hfit.2.2
      match x.mode, hmode with
      | none, _ | some 0, _ | some 1, _ => rfl
      | some (n + 2), hmode => exact absurd (hmode _ rfl) (by omega)
    exact ⟨_, hcode, hclamped.trans (bandFieldsAdjusted_iff x),
      unlessFrozen_answered hr (he ▸ bandsWrite_taken ((bandFieldsFit_iff x).2 hfit))⟩
  · obtain ⟨hlen, hasc, hrange⟩ := adjustForceList_sound h
    exact ⟨hlen, hasc, hrange, fun i hi => adjustForceList_getD h hi, adjustForceList_self⟩
  · obtain ⟨hlen, hasc, hrange⟩ := adjustTideList_sound h
    exact ⟨hlen, hasc, hrange, fun i hi => adjustTideList_getD h hi, adjustTideList_self⟩

end Sys2Proof.Machine
end

section
/-! PROOFS. The result of a window cell and the summary of an area (O37). -/

namespace Sys2Proof.Machine

/-! ### The result of a window cell (R67, R68, R81, R82, R147) -/

section Cell

variable {f : FieldStore} {x : EvalInputs} {col row : Nat}

/-- On a sea cell evaluated for wind the wind is that of the endpoint rule. -/
theorem evaluateCell_wind_sea (h : (mapEntry x.areaMap col row).land = false) :
    (evaluateCell f x true col row).wind = cellWind f x col row := by
  simp [evaluateCell, h]

theorem evaluateCell_tide_sea (e : Bool) (h : (mapEntry x.areaMap col row).land = false) :
    (evaluateCell f x e col row).tideHeight = cellTide f x col row := by
  simp [evaluateCell, h]

theorem evaluateCell_trend_sea (e : Bool) (h : (mapEntry x.areaMap col row).land = false) :
    (evaluateCell f x e col row).trend =
      trendOf x.bands.slack (entryOf f x.slotA col row).tide (entryOf f x.slotB col row).tide := by
  simp [evaluateCell, h]

theorem evaluateCell_land (e : Bool) (h : (mapEntry x.areaMap col row).land = true) :
    (evaluateCell f x e col row).wind = none ∧ (evaluateCell f x e col row).tideHeight = none
      ∧ (evaluateCell f x e col row).trend = none := by
  simp [evaluateCell, h]

theorem evaluateCell_wind_unevaluated : (evaluateCell f x false col row).wind = none := by
  simp [evaluateCell]

end Cell

/-- The trend of two heights present (R81). -/
theorem trendOf_some (slack : Nat) (p q : Int) :
    ((q - p).natAbs ≤ slack → trendOf slack (some p) (some q) = some .slack)
      ∧ (slack < q - p → trendOf slack (some p) (some q) = some .rising)
      ∧ (slack < p - q → trendOf slack (some p) (some q) = some .falling) := by
  refine ⟨fun h => if_pos h, fun h => ?_, fun h => ?_⟩
  · exact (if_neg (by omega)).trans (if_pos (by omega))
  · exact (if_neg (by omega)).trans (if_neg (by omega))

/-! ### The listed cells of a table -/

section Listed

variable {α : Type} {d : α} {k : Nat} {v : α} {m : Store α}

theorem storeGet_of_mem (h : (m.map Prod.fst).Pairwise (· < ·)) (hm : (k, v) ∈ m) : storeGet d k m = v := by
  induction m with
  | nil => cases hm
  | cons e rest ih =>
    obtain ⟨j, w⟩ := e
    obtain ⟨hj, hrest⟩ := List.pairwise_cons.1 h
    rcases List.mem_cons.1 hm with heq | hm
    · obtain ⟨rfl, rfl⟩ := Prod.mk.inj heq
      simp [storeGet]
    · have hne : j ≠ k := (hj k (List.mem_map_of_mem hm)).ne
      exact (if_neg hne).trans (ih hrest hm)

theorem mem_of_storeGet (hget : storeGet d k m = v) (hv : v ≠ d) : (k, v) ∈ m := by
  induction m with
  | nil => exact absurd hget.symm hv
  | cons e rest ih =>
    obtain ⟨j, w⟩ := e
    by_cases hj : j = k
    · subst hj
      have hw : w = v := by simpa [storeGet] using hget
      exact hw ▸ List.mem_cons_self
    · exact List.mem_cons_of_mem _ (ih (by simpa [storeGet, hj] using hget))

/-- A table in canonical form lists exactly the values that differ from that of an unlisted cell. -/
theorem mem_store_iff (h : storeWf d m) : (k, v) ∈ m ↔ storeGet d k m = v ∧ v ≠ d :=
  ⟨fun hm => ⟨storeGet_of_mem h.1 hm, h.2 _ hm⟩, fun ⟨hget, hv⟩ => mem_of_storeGet hget hv⟩

end Listed

/-! ### The summary of an area (R83, R84) -/

/-- The cell of a key. -/
def keyCell (k : Nat) : Nat × Nat := (k % 96, k / 96)

theorem keyCell_cellKey {col row : Nat} (h : col < 96) : keyCell (cellKey col row) = (col, row) := by
  simp only [keyCell, cellKey, Prod.mk.injEq]
  omega

theorem cellKey_keyCell (k : Nat) : cellKey (keyCell k).1 (keyCell k).2 = k := by
  simp only [keyCell, cellKey]
  omega

theorem keyCell_injective : Function.Injective keyCell := fun j k h => by
  rw [← cellKey_keyCell j, h, cellKey_keyCell]

theorem Grid.contains_iff (g : Grid) (col row : Nat) : g.contains col row = true ↔ col < g.columns ∧ row < g.rows := by
  simp [Grid.contains]

section Summary

variable {f : FieldStore} {x : EvalInputs} {g : Option Grid} {m : Option AreaMap} {area : Nat}

/-- The summary cells of an area are listed by the map, as an unlisted cell has area 0. -/
theorem mem_summaryCells (harea : 1 ≤ area) (hg : ∀ d, g = some d → d.columns ≤ 96)
    (hm : ∀ a, m = some a → storeWf seaCell a.cells) (c : Nat × Nat) :
    c ∈ summaryCells g m area ↔ (∃ d, g = some d ∧ c.1 < d.columns ∧ c.2 < d.rows)
      ∧ (mapEntry m c.1 c.2).area = area ∧ (mapEntry m c.1 c.2).land = false := by
  cases m with
  | none =>
    have : seaCell.area ≠ area := by simp [seaCell]; omega
    simp [summaryCells, mapEntry, this]
  | some a =>
    have hwf := hm a rfl
    simp only [summaryCells, mapEntry, List.mem_map, List.mem_filter, Bool.and_eq_true, decide_eq_true_eq,
      Bool.not_eq_true', Option.any_eq_true, Grid.contains_iff]
    constructor
    · rintro ⟨⟨k, e⟩, ⟨hk, ⟨ha, hl⟩, hin⟩, rfl⟩
      have hget : storeGet seaCell (cellKey (k % 96) (k / 96)) a.cells = e :=
        (congrArg (storeGet seaCell · a.cells) (cellKey_keyCell k)).trans ((mem_store_iff hwf).1 hk).1
      exact ⟨hin, hget ▸ ha, hget ▸ hl⟩
    · rintro ⟨⟨d, hd, hcol, hrow⟩, ha, hl⟩
      have hcell : keyCell (cellKey c.1 c.2) = c := keyCell_cellKey (hcol.trans_le (hg d hd))
      have hlisted : storeGet seaCell (cellKey c.1 c.2) a.cells ≠ seaCell := fun he => by
        rw [he] at ha
        exact absurd (show 0 = area from ha) (by omega)
      refine ⟨(cellKey c.1 c.2, _), ⟨(mem_store_iff hwf).2 ⟨rfl, hlisted⟩, ⟨ha, hl⟩, d, hd, ?_⟩, hcell⟩
      exact ⟨(congrArg Prod.fst hcell).trans_lt hcol, (congrArg Prod.snd hcell).trans_lt hrow⟩

theorem nodup_summaryCells (hm : ∀ a, m = some a → storeWf seaCell a.cells) : (summaryCells g m area).Nodup := by
  cases m with
  | none => exact List.nodup_nil
  | some a =>
    have hkeys : ((a.cells.filter fun e => e.2.area = area && !e.2.land
        && g.any fun d => d.contains (e.1 % 96) (e.1 / 96)).map Prod.fst).Nodup :=
      ((hm a rfl).1.sublist (List.filter_sublist.map _)).imp Nat.ne_of_lt
    simpa [summaryCells, keyCell, Function.comp_def] using hkeys.map keyCell_injective

theorem maxBandOf_eq_max? (bs : List Nat) : maxBandOf bs = bs.max? := by
  have hfold (b : Nat) (bs : List Nat) :
      bs.foldl (fun m b => some (max (m.getD 0) b)) (some b) = some (bs.foldl max b) := by
    induction bs generalizing b with
    | nil => rfl
    | cons a bs ih => exact ih (max b a)
  cases bs with
  | nil => rfl
  | cons b bs => exact (hfold (max 0 b) bs).trans (by rw [Nat.zero_max]; rfl)

/-- The cells that a summary counts: the summary cells of the area that have wind. -/
def windCellsOf (f : FieldStore) (x : EvalInputs) (g : Option Grid) (area : Nat) : List (Nat × Nat) :=
  (summaryCells g x.areaMap area).filter fun c => (evaluateCell f x true c.1 c.2).wind.isSome

/-- The raw force bands of the cells that a summary counts. -/
def windBandsOf (f : FieldStore) (x : EvalInputs) (g : Option Grid) (area : Nat) : List Nat :=
  (windCellsOf f x g area).filterMap fun c => (evaluateCell f x true c.1 c.2).rawForce

theorem mem_windBandsOf {b : Nat} :
    b ∈ windBandsOf f x g area ↔ ∃ c ∈ windCellsOf f x g area, (evaluateCell f x true c.1 c.2).rawForce = some b :=
  List.mem_filterMap

theorem length_windBandsOf : (windBandsOf f x g area).length = (windCellsOf f x g area).length := by
  refine List.filterMap_length_eq_length.2 fun c hc => ?_
  have hwind := (List.mem_filter.1 hc).2
  rwa [show (evaluateCell f x true c.1 c.2).rawForce = (evaluateCell f x true c.1 c.2).wind.map _ from rfl,
    Option.isSome_map]

/-- A summary is made of the bands of the cell results, as its cells are sea cells. -/
theorem areaSummary_eq (hsea : ∀ c ∈ summaryCells g x.areaMap area, (mapEntry x.areaMap c.1 c.2).land = false) :
    areaSummary f x g area =
      { maxBand := (windBandsOf f x g area).max?
        windCells := (windCellsOf f x g area).length
        warned := areaWarned f x.slotA x.slotB area } := by
  have hbands : (summaryCells g x.areaMap area).filterMap
      (fun c => (cellWind f x c.1 c.2).map (rawForceBand x.bands)) = windBandsOf f x g area := by
    rw [windBandsOf, windCellsOf, List.filterMap_filter]
    refine List.filterMap_congr fun c hc => ?_
    rw [← evaluateCell_wind_sea (hsea c hc)]
    cases hw : (evaluateCell f x true c.1 c.2).wind with
    | none => rfl
    | some w => exact (congrArg (Option.map _) hw).symm
  simp only [areaSummary, hbands, maxBandOf_eq_max?, length_windBandsOf]

theorem areaWarned_iff (a b : Option SlotRef) :
    areaWarned f a b area = true ↔ ∃ q : SlotRef, (a = some q ∨ b = some q) ∧ area ∈ (f.slot q.slot).warnings := by
  simp [areaWarned, refsOf, or_and_right, exists_or]

end Summary

/-- Settles O37: each field of a result by the endpoint rule; a summary by the cells it counts and their bands. -/
theorem cellResultByEndpoints : Obligations.CellResultByEndpoints := by
  refine ⟨fun f x e col row => ?_, fun f x g area harea hg hm => ?_⟩
  · intro r a b
    have hland : r.land = (mapEntry x.areaMap col row).land := rfl
    refine ⟨rfl, rfl, rfl, rfl, rfl, evaluateCell_land e, ?_, fun h he => ?_, fun h => ?_, fun h => ?_, fun w h => ?_,
      rfl, rfl⟩
    · rintro rfl
      exact evaluateCell_wind_unevaluated
    · subst he
      have hwind : r.wind = endpointValue (blendWind x.weight) x.weight a.wind b.wind := evaluateCell_wind_sea h
      rw [hwind]
      refine ⟨fun p q hp hq => ?_, fun p hp hq => ?_, fun q hp hq => ?_, fun hp hq => ?_⟩ <;> rw [hp, hq] <;> rfl
    · have htide : r.tideHeight = endpointValue (fun a b => blend a b x.weight) x.weight a.tide b.tide :=
        evaluateCell_tide_sea e h
      have htrend : r.trend = trendOf x.bands.slack a.tide b.tide := evaluateCell_trend_sea e h
      rw [htide, htrend]
      refine ⟨fun p q hp hq => ?_, fun p hp hq => ?_, fun q hp hq => ?_, fun hp hq => ?_⟩ <;> rw [hp, hq]
      · exact ⟨rfl, trendOf_some x.bands.slack p q⟩
      · exact ⟨rfl, rfl⟩
      · exact ⟨rfl, rfl⟩
      · exact ⟨rfl, rfl⟩
    · exact ⟨congrArg (Option.map _) h, congrArg (Option.map _) h, congrArg (Option.map _) h, congrArg (Option.map _) h⟩
    · exact ⟨congrArg (Option.map _) h, congrArg (Option.map _) h, congrArg (Option.map _) h, congrArg (Option.map _) h⟩
  · intro r y
    have hcells := mem_summaryCells harea hg hm
    have hy : y = _ := areaSummary_eq fun c hc => ((hcells c).1 hc).2.2
    refine ⟨⟨windCellsOf f x g area, (nodup_summaryCells hm).filter _, fun c => ?_, by rw [hy], ?_, fun b => ?_⟩,
      areaWarned_iff ..⟩
    · rw [windCellsOf, List.mem_filter, hcells c, Option.isSome_iff_ne_none, and_assoc, and_assoc]
      rfl
    · rw [hy, List.max?_eq_none_iff, ← List.length_eq_zero_iff, length_windBandsOf, List.length_eq_zero_iff]
    · rw [hy, List.max?_eq_some_iff, mem_windBandsOf]
      refine and_congr_right fun _ => ⟨fun h c hc k hk => h k (mem_windBandsOf.2 ⟨c, hc, hk⟩), fun h k hk => ?_⟩
      obtain ⟨c, hc, hband⟩ := mem_windBandsOf.1 hk
      exact h c hc k hband

end Sys2Proof.Machine
end

section
/-! PROOFS. A composition: the cells it evaluates, its summaries and the glyphs it writes (O57). -/

namespace Sys2Proof.Machine

/-! ### The cells of a composition (R147) -/

theorem mem_windowOffsets {g : Option Grid} {w : ChartWindow} {stride c r : Nat} :
    (c, r) ∈ windowOffsets g w stride ↔ c < w.width ∧ r < w.height ∧ stride ∣ c ∧ stride ∣ r
      ∧ ∃ d, g = some d ∧ w.col + c < d.columns ∧ w.row + r < d.rows := by
  simp only [windowOffsets, List.mem_flatMap, List.mem_map, List.mem_filter, List.mem_range, Bool.and_eq_true,
    decide_eq_true_eq, Option.any_eq_true, Grid.contains_iff, Prod.mk.injEq, Nat.dvd_iff_mod_eq_zero]
  grind

/-- Rows from the north, and columns from the west within a row. -/
theorem windowOffsets_ordered (g : Option Grid) (w : ChartWindow) (stride : Nat) :
    (windowOffsets g w stride).Pairwise fun p q => p.2 < q.2 ∨ (p.2 = q.2 ∧ p.1 < q.1) := by
  refine List.pairwise_flatMap.2 ⟨fun r _ => ?_, ?_⟩
  · exact List.pairwise_map.2 ((List.pairwise_lt_range.filter _).imp fun h => .inr ⟨rfl, h⟩)
  · refine (List.pairwise_lt_range.filter _).imp fun {r r'} h p hp q hq => ?_
    obtain ⟨_, _, rfl⟩ := List.mem_map.1 hp
    obtain ⟨_, _, rfl⟩ := List.mem_map.1 hq
    exact .inl h

theorem windEvaluatedAt_iff (level stride : Nat) (o : Nat × Nat) :
    windEvaluatedAt level stride o = true ↔ level ≤ 2
      ∧ (if level ≤ 1 then stride else min 8 (2 * stride)) ∣ o.1
      ∧ (if level ≤ 1 then stride else min 8 (2 * stride)) ∣ o.2 := by
  unfold windEvaluatedAt windStride
  split_ifs with h1 h2
  · simp [Nat.dvd_iff_mod_eq_zero, h1.trans one_le_two]
  · simp [Nat.dvd_iff_mod_eq_zero, h2]
  · simp
    omega

section Cells

variable {f : FieldStore} {x : Composition}

theorem Composition.cells_empty (h : x.snapshot.chart = none) : x.cells f = [] := by
  unfold Composition.cells
  rw [h]

/-- The result of the cell at an offset of the window. -/
def Composition.cellAt (f : FieldStore) (x : Composition) (c : SnapshotChart) (o : Nat × Nat) : CellResult :=
  evaluateCell f x.inputs (windEvaluatedAt x.level c.copy.stride o) (c.window.col + o.1) (c.window.row + o.2)

theorem Composition.cells_chart {c : SnapshotChart} (h : x.snapshot.chart = some c) :
    x.cells f = (windowOffsets x.grid c.window c.copy.stride).map (x.cellAt f c) := by
  unfold Composition.cells
  rw [h]
  rfl

theorem Composition.inputs_chart {c : SnapshotChart} (h : x.snapshot.chart = some c) :
    x.inputs =
      { slotA := c.slotA, slotB := c.slotB, weight := c.weight, bands := x.bands, glyphs := x.glyphs
        areaMap := x.areaMap } := by
  simp [Composition.inputs, h]

end Cells

/-! ### The summaries of an empty page (R66) -/

theorem areaSummary_noSlots {f : FieldStore} {x : EvalInputs} (ha : x.slotA = none) (hb : x.slotB = none)
    (g : Option Grid) (area : Nat) :
    areaSummary f x g area = { maxBand := none, windCells := 0, warned := false } := by
  have hwind (c : Nat × Nat) : cellWind f x c.1 c.2 = none := by
    unfold cellWind
    rw [ha, hb]
    rfl
  simp [areaSummary, hwind, areaWarned, refsOf, ha, hb, maxBandOf]

theorem Composition.summaries_empty {f : FieldStore} {x : Composition} (h : x.snapshot.chart = none) :
    x.summaries f = List.replicate 31 { maxBand := none, windCells := 0, warned := false } := by
  have hempty (area : Nat) := areaSummary_noSlots (f := f) (x := x.inputs) (by simp [Composition.inputs, h])
    (by simp [Composition.inputs, h]) x.grid area
  simp only [Composition.summaries, areaSummaries, funext hempty, List.map_const', length_areaNumbers]

theorem areaSummaries_eq (f : FieldStore) (x : EvalInputs) (g : Option Grid) :
    areaSummaries f x g = (List.range 31).map fun i => areaSummary f x g (i + 1) := List.map_map

/-! ### The Glyph Memory (R77) -/

/-- A glyph is written where its cell lies in the grid in force, and every other cell reads as before. -/
theorem storeGet_writeGlyph {g : Grid} (hg : g.columns ≤ 96) (m : Store GlyphEntry) (r : CellResult) {col : Nat}
    (hcol : col < 96) (row : Nat) :
    storeGet absentGlyph (cellKey col row) (writeGlyph (some g) m r) =
      if col = r.col ∧ row = r.row ∧ col < g.columns ∧ row < g.rows then
        { force := if r.windEvaluated then r.shownForce else (storeGet absentGlyph (cellKey col row) m).force
          tide := r.shownTide }
      else storeGet absentGlyph (cellKey col row) m := by
  unfold writeGlyph
  simp only [Option.any_some, Grid.contains_iff]
  by_cases hin : r.col < g.columns ∧ r.row < g.rows
  · rw [if_pos hin]
    by_cases hcell : col = r.col ∧ row = r.row
    · obtain ⟨rfl, rfl⟩ := hcell
      exact (storeGet_put_self ..).trans (if_pos ⟨rfl, rfl, hin⟩).symm
    · rw [storeGet_put_ne _ fun he => hcell ((cellKey_inj hcol (hin.1.trans_le hg)).1 he),
        if_neg fun ⟨hc, hr, _⟩ => hcell ⟨hc, hr⟩]
  · rw [if_neg hin, if_neg]
    rintro ⟨rfl, rfl, h⟩
    exact hin h

/-- Settles O57: the cells are those at the window's offsets, in their order. -/
theorem compositionCoversWindow : Obligations.CompositionCoversWindow := by
  refine fun f x => ⟨fun h => ⟨Composition.cells_empty h, Composition.summaries_empty h⟩, fun c h => ?_⟩
  intro at_ windStride inputs
  have hcells := Composition.cells_chart (f := f) h
  have hinputs : x.inputs = inputs := Composition.inputs_chart h
  refine ⟨fun col row => ?_, ?_, fun r hr => ?_, ?_, fun g m r col row hg hcol _ => storeGet_writeGlyph hg m r hcol row⟩
  · rw [hcells]
    constructor
    · rintro ⟨hcol, hwidth, hrow, hheight, hdcol, hdrow, hin⟩
      obtain ⟨a, rfl⟩ := Nat.exists_eq_add_of_le hcol
      obtain ⟨b, rfl⟩ := Nat.exists_eq_add_of_le hrow
      rw [Nat.add_sub_cancel_left] at hdcol hdrow
      exact ⟨_, List.mem_map_of_mem (mem_windowOffsets.2 ⟨by omega, by omega, hdcol, hdrow, hin⟩), rfl, rfl⟩
    · rintro ⟨_, hr, rfl, rfl⟩
      obtain ⟨⟨a, b⟩, ho, rfl⟩ := List.mem_map.1 hr
      obtain ⟨ha, hb, hda, hdb, hin⟩ := mem_windowOffsets.1 ho
      exact ⟨Nat.le_add_right .., Nat.add_lt_add_left ha _, Nat.le_add_right .., Nat.add_lt_add_left hb _,
        (Nat.add_sub_cancel_left ..).symm ▸ hda, (Nat.add_sub_cancel_left ..).symm ▸ hdb, hin⟩
  · rw [hcells]
    exact List.pairwise_map.2 ((windowOffsets_ordered ..).imp fun h => by simpa [Composition.cellAt, evaluateCell] using h)
  · rw [hcells] at hr
    obtain ⟨o, -, rfl⟩ := List.mem_map.1 hr
    have hcol : (x.cellAt f c o).col - c.window.col = o.1 := Nat.add_sub_cancel_left ..
    have hrow : (x.cellAt f c o).row - c.window.row = o.2 := Nat.add_sub_cancel_left ..
    rw [hcol, hrow]
    exact ⟨hinputs ▸ rfl, windEvaluatedAt_iff x.level c.copy.stride o⟩
  · rw [← hinputs]
    exact areaSummaries_eq ..

end Sys2Proof.Machine
end

section
/-! PROOFS. How a composition begins and completes (O56). -/

namespace Sys2Proof.Machine

/-! ### A composition begins, or its snapshot waits (R145, R146, R153) -/

section Arrival

variable {s : State} {x : Snapshot}

theorem State.beginComposition_raiseIf (b : Bool) (e : Notice) :
    (s.raiseIf b e).beginComposition x = (s.beginComposition x).raiseIf b e := by
  cases b <;> rfl

theorem State.withComposer_raiseIf (c : Composer) (b : Bool) (e : Notice) :
    (s.raiseIf b e).withComposer c = (s.withComposer c).raiseIf b e := by
  cases b <;> rfl

theorem State.withField_raiseIf (f : FieldStore) (b : Bool) (e : Notice) :
    (s.raiseIf b e).withField f = (s.withField f).raiseIf b e := by
  cases b <;> rfl

/-- A snapshot that finds the Composer idle begins a composition after the governor's judgement. -/
theorem State.snapshotArrives_idle (h : s.composer.composition = none) :
    s.snapshotArrives x =
      ((s.withComposer { s.composer with governor := s.composer.governor.onTime.1 }).beginComposition x).raiseIf
        s.composer.governor.onTime.2 .detailRecovered := by
  unfold State.snapshotArrives
  rw [if_neg (by simp [h])]
  exact State.beginComposition_raiseIf ..

/-- One that finds it composing is a late frame, and waits in the mailbox in the place of an older one. -/
theorem State.snapshotArrives_busy (h : s.composer.composition ≠ none) :
    s.snapshotArrives x =
      ((s.withField (s.field.releaseAll (s.composer.mailbox.elim [] Snapshot.refs))).withComposer
        { s.composer with
          governor := s.composer.governor.late.1
          lateFrames := sat16 (s.composer.lateFrames + 1)
          mailbox := some x
          late := if s.composer.mailbox = none then s.composer.late else sat16 (s.composer.late + 1) }).raiseIf
        s.composer.governor.late.2 .lateFrames := by
  have hjudged : (s.withComposer { s.composer with lateFrames := sat16 (s.composer.lateFrames + 1) }).judgeLate
      = (s.withComposer { s.composer with
          governor := s.composer.governor.late.1, lateFrames := sat16 (s.composer.lateFrames + 1) }).raiseIf
        s.composer.governor.late.2 .lateFrames := rfl
  unfold State.snapshotArrives
  rw [if_pos (Option.isSome_iff_ne_none.2 h)]
  simp only [hjudged, State.raiseIf_composer, State.raiseIf_field, State.withComposer_composer,
    State.withComposer_field]
  cases s.composer.mailbox with
  | none => exact State.withComposer_raiseIf ..
  | some old => exact (congrArg (State.withComposer · _) (State.withField_raiseIf ..)).trans (State.withComposer_raiseIf ..)

end Arrival

/-! ### A composition completes (R77, R85, R87, R149) -/

theorem newGale_eq (old new : Vector AlertState 31) :
    newGale old new = decide (∃ i : Fin 31, old[i] = .quiet ∧ new[i] = .gale) :=
  Bool.eq_iff_iff.2 (by simp [newGale])

theorem allQuiet_iff (a : Vector AlertState 31) : allQuiet a = true ↔ ∀ i : Fin 31, a[i] = .quiet := by
  simp [allQuiet]

/-- What a completion writes: the glyphs and the alerts, with GALE_AREA raised for an area newly in gale and withdrawn
in TRACKING mode with none in gale. -/
theorem State.writeEvaluation_eq (s : State) (cells : List CellResult) (b : Nat) (sums : List AreaSummary) :
    s.writeEvaluation cells b sums =
      let t := (s.withEval { s.eval with
          glyphs := cells.foldl (writeGlyph s.field.grid) s.eval.glyphs, alerts := alertsOf b sums }).raiseIf
        (decide (∃ i : Fin 31, s.eval.alerts[i] = .quiet ∧ (alertsOf b sums)[i] = .gale)) .galeArea
      if s.eval.galeMode = .tracking ∧ ∀ i : Fin 31, (alertsOf b sums)[i] = .quiet then t.withdrawGale else t := by
  simp only [State.writeEvaluation, newGale_eq, allQuiet_iff]

/-- The record of a composition placed, one already there dropped, and its references released (R149). -/
def State.placeRecord (s : State) (x : Composition) : State :=
  { s with
    field := s.field.releaseAll x.snapshot.refs
    composer :=
      { s.composer with
        composition := none
        completed := some (x.record s.field)
        dropped := if s.composer.completed = none then s.composer.dropped else sat16 (s.composer.dropped + 1) } }

section Completion

variable (s : State) (x : Composition)

@[simp] theorem State.placeRecord_eval : (s.placeRecord x).eval = s.eval := rfl
@[simp] theorem State.placeRecord_areaMap : (s.placeRecord x).areaMap = s.areaMap := rfl
@[simp] theorem State.placeRecord_feed : (s.placeRecord x).feed = s.feed := rfl
@[simp] theorem State.placeRecord_grid : (s.placeRecord x).field.grid = s.field.grid := FieldStore.grid_releaseAll ..
@[simp] theorem State.placeRecord_mailbox : (s.placeRecord x).composer.mailbox = s.composer.mailbox := rfl
@[simp] theorem State.placeRecord_governor : (s.placeRecord x).composer.governor = s.composer.governor := rfl

/-- The record placed and the evaluation written, before the snapshot of the mailbox, if any, is begun. -/
def State.recordWritten : State :=
  (s.placeRecord x).writeEvaluation (x.cells s.field) x.bands.galeBand (x.summaries s.field)

theorem State.recordWritten_composer : (s.recordWritten x).composer = (s.placeRecord x).composer := by
  simp [State.recordWritten]

theorem State.completeComposition_recordWritten :
    s.completeComposition x =
      match (s.recordWritten x).composer.mailbox with
      | some y => ((s.recordWritten x).withComposer
          { (s.recordWritten x).composer with mailbox := none }).beginComposition y
      | none => s.recordWritten x := by
  unfold State.completeComposition State.recordWritten State.placeRecord
  cases s.composer.completed <;> rfl

variable {s x}

theorem State.completeComposition_alone (h : s.composer.mailbox = none) :
    s.completeComposition x = s.recordWritten x := by
  rw [State.completeComposition_recordWritten, State.recordWritten_composer, State.placeRecord_mailbox, h]

/-- The snapshot of the mailbox is begun with its inputs as the completion leaves them. -/
theorem State.completeComposition_waiting {y : Snapshot} (h : s.composer.mailbox = some y) :
    s.completeComposition x = (s.recordWritten x).withComposer
      { (s.placeRecord x).composer with
        mailbox := none
        composition := some
          { snapshot := y, bands := s.eval.bands
            glyphs := (x.cells s.field).foldl (writeGlyph s.field.grid) s.eval.glyphs
            areaMap := s.areaMap, grid := s.field.grid, level := s.composer.governor.level, feed := s.feed.state } } := by
  rw [State.completeComposition_recordWritten, State.recordWritten_composer, State.placeRecord_mailbox, h]
  simp [State.beginComposition, State.recordWritten, State.writeEvaluation_eval, State.withComposer]

theorem exec_compositionCompletion_idle (hr : s.resetLine = false) (h : s.composer.composition = none) :
    exec .compositionCompletion s = .next s :=
  (unlessFrozen_eq s hr).trans (by rw [h])

theorem exec_compositionCompletion_composing (hr : s.resetLine = false) (h : s.composer.composition = some x) :
    exec .compositionCompletion s = .next (s.completeComposition x) :=
  (unlessFrozen_eq s hr).trans (by rw [h])

end Completion

/-- Settles O56: a snapshot that arrives by whether a composition is in progress, a completion by whether a snapshot
waits. -/
theorem compositionBeginsAndCompletes : Obligations.CompositionBeginsAndCompletes := by
  constructor
  · intro s x c
    refine ⟨fun h => State.snapshotArrives_idle h, fun h => ?_⟩
    intro g waiting
    have hbusy := State.snapshotArrives_busy (x := x) h
    refine ⟨fun hm => hbusy.trans ?_, fun old hm => hbusy.trans ?_⟩
    · rw [hm, if_pos rfl]
      rfl
    · rw [hm, if_neg nofun]
      rfl
  · intro s hr
    refine ⟨exec_compositionCompletion_idle hr, fun x h => ?_⟩
    intro sums alerts glyphs newly calm record c u v
    have hv : s.recordWritten x = v := by
      rw [State.recordWritten, State.writeEvaluation_eq, State.placeRecord_grid]
      rfl
    rw [exec_compositionCompletion_composing hr h, ← hv]
    exact ⟨fun hm => congrArg _ (State.completeComposition_alone hm),
      fun y hm => congrArg _ (State.completeComposition_waiting hm)⟩

end Sys2Proof.Machine
end

section
/-! PROOFS. A frame start (O50): the Output Stage's choice, the snapshot sent, and the marks a record draws. -/

namespace Sys2Proof.Machine

/-! ### The fill and the key (R155, R158) -/

theorem Mode.animates_iff (m : Mode) : m.animates = true ↔ m = .rehearsal ∨ m = .onAir := by
  cases m <;> decide

theorem Mode.not_animates_iff (m : Mode) : (!m.animates) = true ↔ m = .standby ∨ m = .dormant := by
  cases m <;> decide

/-- R155's table, row by row. -/
theorem chooseFill_eq (s : State) :
    chooseFill s =
      if s.safeLine ∨ s.output.safeSet then safeCard s
      else if s.output.lineup then .lineUpCard
      else if s.output.mode = .standby ∨ s.output.mode = .dormant then .transparent
      else match s.output.shown.bind fun r => r.chart with
        | some c => .chart (rasterise c)
        | none => .transparent := by
  simp only [chooseFill, State.safeHolds, Bool.or_eq_true, Mode.not_animates_iff] <;> rfl

/-- The record shown after a frame start: the completed one, if there is one. -/
def State.showing (s : State) : State :=
  { s with
    composer := { s.composer with completed := none }
    output := { s.output with shown := match s.composer.completed with
      | some r => some r
      | none => s.output.shown } }

theorem State.outputFrame_eq (s : State) : s.outputFrame = s.showing.refillKeyed := by
  unfold State.outputFrame State.showing
  cases h : s.composer.completed with
  | some r => rfl
  | none => simp only [← h]

theorem State.sequence_eq (s : State) :
    s.sequence = if s.output.mode = .rehearsal ∨ s.output.mode = .onAir then s.advance.sendSnapshot else s := by
  simp only [State.sequence, Mode.animates_iff]

/-! ### The snapshot (R63, R65, R143) -/

/-- A phase below the frames of a step gives a weight below 256. -/
theorem frameWeight_le {phase n : Nat} (h : phase < n) : frameWeight phase n ≤ 255 := by
  refine Nat.lt_succ_iff.1 (Nat.div_lt_of_lt_mul ?_)
  omega

/-! ### The marks a record draws (R156) -/

theorem getElem?_areaNumbers {i n : Nat} : areaNumbers[i]? = some n ↔ i < 31 ∧ n = i + 1 := by
  rw [areaNumbers, List.getElem?_map, Option.map_eq_some_iff]
  simp only [List.getElem?_eq_some_iff, List.length_range, List.getElem_range]
  constructor
  · rintro ⟨_, ⟨hi, rfl⟩, rfl⟩
    exact ⟨hi, rfl⟩
  · rintro ⟨hi, rfl⟩
    exact ⟨i, ⟨hi, rfl⟩, rfl⟩

theorem mem_zip_areaNumbers {α : Type} {l : List α} {n : Nat} {y : α} :
    (n, y) ∈ areaNumbers.zip l ↔ 1 ≤ n ∧ n ≤ 31 ∧ l[n - 1]? = some y := by
  rw [List.mem_iff_getElem?]
  simp only [List.getElem?_zip_eq_some, getElem?_areaNumbers]
  constructor
  · rintro ⟨i, ⟨hi, rfl⟩, hy⟩
    exact ⟨by omega, by omega, hy⟩
  · rintro ⟨h1, h31, hy⟩
    exact ⟨n - 1, ⟨by omega, by omega⟩, hy⟩

theorem mem_drawnPieces {l : LayerSet} {ps : List Piece} {k : DrawnMark} :
    k ∈ drawnPieces l ps ↔
      ∃ p, (p ∈ ps ∧ (if p.kind = .areaBoundary then l.areas else l.coast) = true) ∧ .line p = k := by
  simp [drawnPieces]

theorem mem_drawnHighlights {r : RecordChart} {k : DrawnMark} :
    k ∈ drawnHighlights r ↔
      ∃ n gale warned, ((gale = true ∨ warned = true) ∧ 1 ≤ n ∧ n ≤ 31 ∧ r.highlights[n - 1]? = some gale
        ∧ (r.summaries[n - 1]?.map fun y => y.warned) = some warned) ∧ .areaHighlight n gale warned = k := by
  simp only [drawnHighlights, List.mem_map, List.mem_filter, Prod.exists, mem_zip_areaNumbers,
    List.getElem?_zip_eq_some, Bool.or_eq_true, Option.map_eq_some_iff]
  constructor
  · rintro ⟨n, gale, y, ⟨⟨h1, h31, hgale, hy⟩, hor⟩, rfl⟩
    exact ⟨n, gale, y.warned, ⟨hor, h1, h31, hgale, y, hy, rfl⟩, rfl⟩
  · rintro ⟨n, gale, _, ⟨hor, h1, h31, hgale, y, hy, rfl⟩, rfl⟩
    exact ⟨n, gale, y, ⟨⟨h1, h31, hgale, hy⟩, hor⟩, rfl⟩

theorem drawnWind_eq_some {c : CellResult} {k : DrawnMark} :
    drawnWind c = some k ↔ c.windEvaluated = true
      ∧ ((∃ sector, c.direction = some (.sector sector) ∧ .arrow c.col c.row sector (c.shownForce.getD 0) = k)
        ∨ (c.direction = some .calm ∧ .calmMark c.col c.row = k)) := by
  unfold drawnWind
  split <;> simp_all

theorem drawnTrend_eq_some {c : CellResult} {k : DrawnMark} :
    drawnTrend c = some k ↔
      ∃ rising : Bool, c.trend = some (if rising then .rising else .falling) ∧ .trendMark c.col c.row rising = k := by
  unfold drawnTrend
  split <;> simp_all

/-- The layers a rasterisation draws, one after another. -/
theorem mem_rasterise {r : RecordChart} {k : DrawnMark} :
    k ∈ rasterise r ↔
      k ∈ drawnPieces r.layers r.pieces
      ∨ (r.layers.areas = true ∧ k ∈ drawnHighlights r)
      ∨ (r.layers.wind = true ∧ ∃ c ∈ r.cells, drawnWind c = some k)
      ∨ (r.layers.tide = true ∧ ∃ c ∈ r.cells, ∃ band, c.shownTide = some band ∧ .tideColour c.col c.row band = k)
      ∨ (r.layers.trend = true ∧ ∃ c ∈ r.cells, drawnTrend c = some k)
      ∨ ((r.layers.summaries = true ∧ r.level = 0)
        ∧ ∃ n y, (1 ≤ n ∧ n ≤ 31 ∧ r.summaries[n - 1]? = some y) ∧ .summaryPanel n y = k)
      ∨ (r.feedMark = true ∧ k = .feedMark) ∨ (r.noData = true ∧ k = .noDataMark)
      ∨ (r.coastPending = true ∧ k = .coastPendingMark) := by
  simp only [rasterise, List.mem_append, List.mem_ite_nil_right, List.mem_filterMap, List.mem_map, Prod.exists,
    mem_zip_areaNumbers, Option.map_eq_some_iff, List.mem_singleton, Bool.and_eq_true, beq_iff_eq, or_assoc]

/-- Settles O50: the Sequencer leaves the Output Stage and the SAFE line alone, so that the fill follows from those
before the frame start; a mark is drawn by the one layer of its kind. -/
theorem frameStartDrivesOutput : Obligations.FrameStartDrivesOutput := by
  refine ⟨fun s t => ?_, fun s => ?_, fun r k => ?_⟩
  · intro n u v o chart card fill
    have hv : u.sequence = v := u.sequence_eq
    have hout : v.output = s.output := by rw [← hv]; simp [u]
    have hsafe : v.safeLine = s.safeLine := by rw [← hv]; simp [u]
    change u.sequence.outputFrame = _
    rw [hv, State.outputFrame_eq]
    have hfill : chooseFill v.showing = fill := by
      rw [chooseFill_eq]
      clear_value v
      simp only [fill, ← hout, ← hsafe]
      rfl
    have hkey : chooseKey v.output.mode = if s.output.mode = .onAir then .ofFill else .nothing := by
      rw [hout]
      rfl
    have hrefill : v.showing.refillKeyed = { v.showing with
        output := { v.showing.output with fill := chooseFill v.showing, key := chooseKey v.output.mode } } := rfl
    rw [hrefill, hfill, hkey]
    rfl
  · intro snapshot taken
    constructor
    · have hrefs : s.snapshot.refs = taken := by
        rw [State.snapshot_refs]
        rfl
      rw [← hrefs]
      rfl
    · intro hs c hc
      obtain ⟨x, hx, rfl⟩ := Option.map_eq_some_iff.1 hc
      obtain ⟨hlive, -⟩ := hs.live x hx
      exact ⟨frameWeight_le hlive.phase, fun hp => hlive.pending (of_decide_eq_true hp)⟩
  · simp only [mem_rasterise, mem_drawnPieces, mem_drawnHighlights, drawnWind_eq_some, drawnTrend_eq_some]
    cases k with
    | line p => grind
    | areaHighlight n gale warned => simp [-Bool.exists_bool, -Option.map_eq_some_iff]
    | arrow col row sector band => grind
    | calmMark col row => grind
    | tideColour col row band => grind
    | trendMark col row rising => simp [-Bool.exists_bool, and_comm, and_assoc]
    | summaryPanel n y => grind
    | feedMark => grind
    | noDataMark => grind
    | coastPendingMark => grind

end Sys2Proof.Machine
end

section
/-! PROOFS. The operations of the show as exact next states, which the statements about the show and the invariants of
the show both use. -/

namespace Sys2Proof.Machine

variable (s : State)

/-! ### Releases (R99, R109, R110) -/

theorem State.releaseEntry_eq (x : Option Context) :
    s.releaseEntry x = s.withField (s.field.releaseAll (contextRefs x)) := by
  cases x <;> rfl

theorem State.withField_withField (f g : FieldStore) : (s.withField f).withField g = s.withField g := rfl

theorem foldl_releaseEntry_eq (l : List (Option Context)) :
    l.foldl (fun t x => State.releaseEntry t x) s = s.withField (s.field.releaseAll (l.flatMap contextRefs)) := by
  induction l generalizing s with
  | nil => rfl
  | cons x l ih =>
    rw [List.foldl_cons, ih, State.releaseEntry_eq, State.withField_field, State.withField_withField,
      FieldStore.releaseAll_append, List.flatMap_cons]

/-- The stack is released from the top down (R109). -/
theorem State.releaseStack_eq :
    s.releaseStack = (s.withField (s.field.releaseAll (s.ctl.stack.reverse.flatMap contextRefs))).withCtl
      { s.ctl with stack := [] } := by
  unfold State.releaseStack
  rw [foldl_releaseEntry_eq]
  rfl

/-! ### Takes (R107, R109, R110) -/

/-- LIVE released, the Glyph Memory and the Area Alert Table cleared: what every change of what is on air begins with
(R78, R86). -/
def State.offAir (s : State) (released : List SlotRef) : State :=
  (s.withField (s.field.releaseAll released)).withEval s.eval.cleared

theorem State.takeNext_eq (x : Context) :
    s.takeNext x = State.buildNext ((s.offAir (contextRefs s.ctl.live)).withCtl
      { s.ctl with next := none, live := some { x with prep := none }, hold := false }) := by
  unfold State.takeNext
  rw [State.releaseEntry_eq]
  rfl

theorem State.releaseStack_takeNext_eq (x : Context) :
    s.releaseStack.takeNext x = State.buildNext
      ((s.offAir (s.ctl.stack.reverse.flatMap contextRefs ++ contextRefs s.ctl.live)).withCtl
        { s.ctl with next := none, live := some { x with prep := none }, stack := [], hold := false }) := by
  have released : s.releaseStack.offAir (contextRefs s.ctl.live)
      = (s.offAir (s.ctl.stack.reverse.flatMap contextRefs ++ contextRefs s.ctl.live)).withCtl
        { s.ctl with stack := [] } := by
    rw [State.releaseStack_eq, State.offAir, State.offAir, ← FieldStore.releaseAll_append]
    rfl
  rw [State.takeNext_eq, State.releaseStack_ctl, released]
  rfl

/-- The contexts on air and in the stack are counted and released (R110). -/
theorem clear_eq :
    clear s = ((s.offAir (contextRefs s.ctl.live ++ s.ctl.stack.reverse.flatMap contextRefs)).withCtl
        { s.ctl with live := none, stack := [], hold := false },
      { outcome := .done, fields := numField (s.ctl.live.toList ++ s.ctl.stack.filterMap id).length }) := by
  unfold clear
  rw [State.releaseEntry_eq, State.releaseStack_eq, State.offAir, ← FieldStore.releaseAll_append]
  rfl

/-! ### The Insert Stack (R113, R115) -/

theorem insertEnd_eq {rest : List (Option Context)} {top : Option Context} (h : s.ctl.stack = rest ++ [top]) :
    insertEnd s = ((s.offAir (contextRefs s.ctl.live)).withCtl { s.ctl with live := top, stack := rest },
      { outcome := .done, fields := contextPageField top ++ numField rest.length }) := by
  unfold insertEnd
  rw [State.releaseEntry_eq]
  simp only [State.withField_ctl, h, List.getLast?_concat, List.dropLast_concat]
  rfl

/-! ### DESK_RESET (R122) -/

theorem deskReset_eq :
    deskReset s = (((s.withField (s.field.releaseAll (contextRefs s.ctl.next))).modifyPort .dp fun x =>
          { x with record := NoticeRecord.empty, linkErrors := 0, overruns := 0 }).withCtl
        { s.ctl with queue := [], next := none, hold := false },
      { outcome := .done, fields := [] }) := by
  unfold deskReset
  simp only [State.releaseEntry_eq]
  rfl

/-! ### The pages (R92, R101, R113) -/

theorem pageIdOf_some (i : PageId) : pageIdOf i.val = some i := dif_pos i.isLt

theorem pageIdOf_none {n : Nat} (h : 31 < n) : pageIdOf n = none := dif_neg (by omega)

theorem ShowController.definedPage_some_iff {y : ShowController} {n : Nat} {i : PageId} {p : Page} :
    y.definedPage n = some (i, p) ↔ i.val = n ∧ y.page i = some p := by
  unfold ShowController.definedPage
  constructor
  · intro h
    obtain ⟨j, hj, hp⟩ := Option.bind_eq_some_iff.1 h
    obtain ⟨q, hq, he⟩ := Option.map_eq_some_iff.1 hp
    obtain ⟨rfl, rfl⟩ := Prod.mk.inj he
    unfold pageIdOf at hj
    split at hj
    · exact ⟨congrArg Fin.val (Option.some.inj hj).symm, hq⟩
    · cases hj
  · rintro ⟨rfl, hp⟩
    simp [pageIdOf_some, hp]

theorem ShowController.definedPage_none {y : ShowController} {n : Nat} (h : ∀ i : PageId, i.val = n → y.page i = none) :
    y.definedPage n = none := by
  cases hp : y.definedPage n with
  | none => rfl
  | some ip =>
    obtain ⟨i, p⟩ := ip
    obtain ⟨hi, hpage⟩ := ShowController.definedPage_some_iff.1 hp
    exact absurd ((h i hi).symm.trans hpage) nofun

end Sys2Proof.Machine
end

section
/-! PROOFS. The rules of the pages, the contexts, the Insert Stack and the Cue Queue, stated of the Show Controller, and
what the changes of a context do to them. -/

namespace Sys2Proof.Machine

/-! ### The steps of a context (R96, R98) -/

/-- The steps `a` and `b` of a context whose page runs from hour `lo` to hour `hi`. -/
structure StepsWithin (lo hi : Nat) (a b : Option SlotRef) : Prop where
  starved : a = none → b = none
  hours : ∀ r ∈ refsOf a b, lo ≤ r.hour ∧ r.hour ≤ hi
  order : ∀ p q, a = some p → b = some q → p.hour < q.hour

section Steps

variable {lo hi k : Nat} {a b : Option SlotRef} {f : FieldStore}

@[simp] theorem mem_refsOf {r : SlotRef} : r ∈ refsOf a b ↔ a = some r ∨ b = some r := by simp [refsOf]

theorem StepsWithin.none : StepsWithin lo hi none none := ⟨fun _ => rfl, by simp, nofun⟩

theorem StepsWithin.mono (h : StepsWithin k hi a b) (hk : lo ≤ k) : StepsWithin lo hi a b :=
  ⟨h.starved, fun r hr => ⟨hk.trans (h.hours r hr).1, (h.hours r hr).2⟩, h.order⟩

/-- Step b is released (R138). -/
theorem StepsWithin.dropB (h : StepsWithin lo hi a b) : StepsWithin lo hi a .none :=
  ⟨fun _ => rfl, fun r hr => h.hours r (mem_refsOf.2 (.inl (by simpa using hr))), nofun⟩

/-- Another step is put after step a, or none (R140). -/
theorem StepsWithin.after {p : SlotRef} (h : StepsWithin lo hi (some p) b) :
    StepsWithin lo hi (some p) (f.resolveAfter p.hour hi) := by
  have hp := h.hours p (by simp)
  refine ⟨nofun, fun r hr => ?_, ?_⟩
  · rcases mem_refsOf.1 hr with hr | hr
    · exact Option.some.inj hr ▸ hp
    · obtain ⟨-, -, hlo, hhi⟩ := f.resolve_some hr
      exact ⟨by omega, hhi⟩
  · rintro _ q ⟨⟩ hq
    exact (f.resolve_some hq).2.2.1

/-- Step a is republished under its hour (R140). -/
theorem StepsWithin.republish {p q : SlotRef} (h : StepsWithin lo hi (some p) b) (hq : q.hour = p.hour) :
    StepsWithin lo hi (some q) b := by
  refine ⟨nofun, fun r hr => ?_, ?_⟩
  · rcases mem_refsOf.1 hr with hr | hr
    · exact Option.some.inj hr ▸ hq ▸ h.hours p (by simp)
    · exact h.hours r (by simp [hr])
  · rintro _ r ⟨⟩ hr
    exact hq ▸ h.order p r rfl hr

theorem StepsWithin.resolve {p : SlotRef} (h : f.resolve lo hi = some p) : StepsWithin lo hi (some p) .none := by
  obtain ⟨-, -, hlo, hhi⟩ := f.resolve_some h
  exact ⟨nofun, fun r hr => by obtain rfl : p = r := by simpa using hr
                               exact ⟨hlo, hhi⟩, nofun⟩

/-- The pair of steps of a resolution. -/
theorem StepsWithin.resolvePair : StepsWithin lo hi (f.resolvePair lo hi).1 (f.resolvePair lo hi).2 := by
  unfold FieldStore.resolvePair
  split
  · exact .none
  · next p hp => exact (StepsWithin.resolve hp).after

end Steps

/-! ### Contexts (R55, R57, R96, R97) -/

section Contexts

variable {g g' : Option Grid} {c c' : CoastStore} {x : Context}

theorem Context.Sound.steps (h : x.Sound g c) : StepsWithin x.copy.first x.copy.last x.stepA x.stepB :=
  ⟨h.starved, h.hours, h.order⟩

/-- Another place of the animation, with steps within the page's hours. -/
theorem Context.Sound.move (h : x.Sound g c) {a b : Option SlotRef} {n : Nat} {e : Bool}
    (hab : StepsWithin x.copy.first x.copy.last a b) (hn : n < x.copy.framesPerStep) :
    Context.Sound g c { x with stepA := a, stepB := b, phase := n, ended := e } :=
  ⟨h.copy, h.start, h.window, hab.starved, hab.hours, hab.order, hn, h.pending, h.cutting, h.pieces⟩

theorem Context.Sound.prepare (h : x.Sound g c) (k : Option Prep) : Context.Sound g c { x with prep := k } :=
  ⟨h.copy, h.start, h.window, h.starved, h.hours, h.order, h.phase, h.pending, h.cutting, h.pieces⟩

/-- The coast part of a context, which runs a cut only over a VALID store (R55, R57). -/
structure CoastPart.Sound (c : CoastStore) (k : CoastPart) : Prop where
  pending : k.cut ≠ .done → k.pieces = [] ∧ k.overflow = 0
  cutting : k.cut = .cutting → c.state = .valid
  pieces : k.pieces.length ≤ 4096

theorem Context.Sound.coastPart (h : x.Sound g c) : x.coast.Sound c := ⟨h.pending, h.cutting, h.pieces⟩

/-- A context cut anew, or over another store. -/
theorem Context.Sound.cut (h : x.Sound g c) {k : CoastPart} (hk : k.Sound c') :
    Context.Sound g c' { x with coast := k } :=
  ⟨h.copy, h.start, h.window, h.starved, h.hours, h.order, h.phase, hk.pending, hk.cutting, hk.pieces⟩

theorem CoastPart.sound_awaiting : CoastPart.Sound c { cut := .awaiting, pieces := [], overflow := 0 } :=
  ⟨fun _ => ⟨rfl, rfl⟩, nofun, Nat.zero_le _⟩

theorem CoastPart.sound_cutting (hc : c.state = .valid) :
    CoastPart.Sound c { cut := .cutting, pieces := [], overflow := 0 } :=
  ⟨fun _ => ⟨rfl, rfl⟩, fun _ => hc, Nat.zero_le _⟩

theorem requestedCut_sound (c : CoastStore) : (requestedCut c).Sound c := by
  unfold requestedCut
  split
  · next h => exact CoastPart.sound_cutting h
  · exact CoastPart.sound_awaiting

theorem completedCut_sound (c : CoastStore) (w : ChartWindow) : (completedCut c w).Sound c' :=
  ⟨fun h => absurd rfl h, nofun, List.length_take_le ..⟩

/-- A coast part without a cut in flight is sound over every store. -/
theorem CoastPart.Sound.of_idle {k : CoastPart} (h : k.Sound c) (hk : k.cut ≠ .cutting) : k.Sound c' :=
  ⟨h.pending, fun he => absurd he hk, h.pieces⟩

theorem CoastPart.Sound.congr {k : CoastPart} (h : k.Sound c) (hc : c'.state = c.state) : k.Sound c' :=
  ⟨h.pending, fun he => hc.trans (h.cutting he), h.pieces⟩

theorem Context.abandonCut_sound (h : x.Sound g c) : x.abandonCut.Sound g c' := by
  unfold Context.abandonCut
  split
  · exact h.cut CoastPart.sound_awaiting
  · next hcut => exact h.cut (h.coastPart.of_idle hcut)

theorem Context.beginWaitingCut_sound (h : x.Sound g c) (hc : c'.state = .valid) : x.beginWaitingCut.Sound g c' := by
  unfold Context.beginWaitingCut
  split
  · exact h.cut (CoastPart.sound_cutting hc)
  · exact h.cut ⟨h.pending, fun _ => hc, h.pieces⟩

theorem Context.reclamp_sound (h : x.Sound g c) : (x.reclamp g' c).Sound g' c := by
  have window {y : Context} {k : CoastPart} (hy : y = { x with window := clampWindow g' x.copy, coast := k })
      (hk : k.Sound c) : y.Sound g' c :=
    hy ▸ ⟨h.copy, h.start, rfl, h.starved, h.hours, h.order, h.phase, hk.pending, hk.cutting, hk.pieces⟩
  unfold Context.reclamp
  dsimp only
  split
  · next he => exact window (by rw [he]) h.coastPart
  · split
    · exact window rfl h.coastPart
    · exact window rfl (requestedCut_sound c)

/-- The rules of NEXT (R104): it stands at its first frame, and it is PREPARING only while its cut is in flight. -/
structure Context.NextSound (g : Option Grid) (c : CoastStore) (x : Context) : Prop where
  sound : x.Sound g c
  atStart : x.phase = 0 ∧ x.ended = false
  prep : x.prep.isSome = true
  preparing : x.prep = some .preparing → x.coast.cut = .cutting

/-- The rules of a context on air or in the Insert Stack: it has no preparation state (R96). -/
def Context.ShownSound (g : Option Grid) (c : CoastStore) (x : Context) : Prop := x.Sound g c ∧ x.prep = none

theorem Context.NextSound.shown (h : x.NextSound g c) : Context.ShownSound g c { x with prep := none } :=
  ⟨h.sound.prepare none, rfl⟩

/-- NEXT with another coast part is answered where it was PREPARING (R104). -/
theorem Context.NextSound.prepared (h : x.NextSound g c) {k : CoastPart} (hk : k.Sound c') :
    (Context.prepared { x with coast := k }).NextSound g c' := by
  have hx : Context.Sound g c' { x with coast := k } := h.sound.cut hk
  unfold Context.prepared
  split
  · exact ⟨hx.prepare _, h.atStart, rfl, nofun⟩
  · next hp => exact ⟨hx, h.atStart, h.prep, fun he => absurd he hp⟩

theorem Context.NextSound.abandoned (h : x.NextSound g c) : x.abandonCut.prepared.NextSound g c' := by
  unfold Context.abandonCut
  split
  · exact h.prepared CoastPart.sound_awaiting
  · next hcut => exact h.prepared (h.sound.coastPart.of_idle hcut)

theorem Context.NextSound.begun (h : x.NextSound g c) (hc : c'.state = .valid) : x.beginWaitingCut.NextSound g c' := by
  have sound := Context.beginWaitingCut_sound h.sound hc
  unfold Context.beginWaitingCut at sound ⊢
  split
  · next hcut =>
    rw [if_pos hcut] at sound
    exact ⟨sound, h.atStart, h.prep, fun _ => rfl⟩
  · next hcut =>
    rw [if_neg hcut] at sound
    exact ⟨sound, h.atStart, h.prep, h.preparing⟩

/-- A new window leaves the place of the animation and the preparation state (R3). -/
theorem Context.reclamp_frame (g : Option Grid) (c : CoastStore) (x : Context) :
    (x.reclamp g c).phase = x.phase ∧ (x.reclamp g c).ended = x.ended ∧ (x.reclamp g c).prep = x.prep := by
  unfold Context.reclamp
  dsimp only
  split
  · exact ⟨rfl, rfl, rfl⟩
  · split
    · exact ⟨rfl, rfl, rfl⟩
    · exact ⟨rfl, rfl, rfl⟩

/-- A cut in flight runs on or begins again (R3). -/
theorem Context.reclamp_cutting (hc : c.state = .valid) (h : x.coast.cut = .cutting) :
    (x.reclamp g' c).coast.cut = .cutting := by
  unfold Context.reclamp
  dsimp only
  split
  · exact h
  · rw [if_neg (by simp [h])]
    simp [requestedCut, hc]

theorem Context.NextSound.reclamped (h : x.NextSound g c) : (x.reclamp g' c).NextSound g' c := by
  obtain ⟨hphase, hended, hprep⟩ := Context.reclamp_frame g' c x
  refine ⟨Context.reclamp_sound h.sound, ⟨hphase.trans h.atStart.1, hended.trans h.atStart.2⟩,
    (congrArg Option.isSome hprep).trans h.prep, fun hp => ?_⟩
  have hcut := h.preparing (hprep.symm.trans hp)
  exact Context.reclamp_cutting (h.sound.cutting hcut) hcut

end Contexts

/-! ### The Show Controller (R92, R100, R103, R112) -/

/-- The pages, the cues and the contexts: `State.ShowSound` but for the build of NEXT. -/
structure ShowController.Sound (g : Option Grid) (c : CoastStore) (y : ShowController) : Prop where
  pages : ∀ i p, y.page i = some p → p.Sound
  cues : ∀ e ∈ y.queue, (y.page e.page).isSome = true
  next : ∀ x, y.next = some x → x.NextSound g c
  live : ∀ x, y.live = some x → x.ShownSound g c
  stacked : ∀ x, some x ∈ y.stack → x.ShownSound g c

/-- R103: NEXT is empty only with the Cue Queue. -/
def ShowController.Built (y : ShowController) : Prop := y.next = none → y.queue = []

/-- `State.StackSound`, stated of the controller (R112). -/
def ShowController.StackSound (y : ShowController) : Prop :=
  (y.stack ≠ [] → y.live.isSome = true) ∧ ∀ e ∈ y.stack.tail, e.isSome = true

/-- The Cue Queue and the Insert Stack within their capacities (R100, R112). -/
def ShowController.Bounded (y : ShowController) : Prop := y.queue.length ≤ 8 ∧ y.stack.length ≤ 2

theorem State.showSound_iff (s : State) : s.ShowSound ↔ s.ctl.Sound s.field.grid s.coast ∧ s.ctl.Built :=
  ⟨fun ⟨pages, cues, built, next, live, stacked⟩ => ⟨⟨pages, cues, fun x hx => by
      obtain ⟨h1, h2, h3, h4, h5⟩ := next x hx
      exact ⟨h1, ⟨h2, h3⟩, h4, h5⟩, live, stacked⟩, built⟩,
    fun ⟨⟨pages, cues, next, live, stacked⟩, built⟩ => ⟨pages, cues, built, fun x hx => by
      obtain ⟨h1, ⟨h2, h3⟩, h4, h5⟩ := next x hx
      exact ⟨h1, h2, h3, h4, h5⟩, live, stacked⟩⟩

theorem State.stackSound_iff (s : State) : s.StackSound ↔ s.ctl.StackSound :=
  ⟨fun ⟨h1, h2⟩ => ⟨h1, h2⟩, fun ⟨h1, h2⟩ => ⟨h1, h2⟩⟩

section Controller

variable {g g' : Option Grid} {c c' : CoastStore} {y : ShowController}

/-- The same pages and cues, with other contexts. -/
theorem ShowController.Sound.contexts (h : y.Sound g c) {next live : Option Context} {stack : List (Option Context)}
    {held : Bool} (hnext : ∀ x, next = some x → x.NextSound g' c') (hlive : ∀ x, live = some x → x.ShownSound g' c')
    (hstack : ∀ x, some x ∈ stack → x.ShownSound g' c') :
    ShowController.Sound g' c' { y with next := next, live := live, stack := stack, hold := held } :=
  ⟨h.pages, h.cues, hnext, hlive, hstack⟩

/-- Fewer cues. -/
theorem ShowController.Sound.unqueue (h : y.Sound g c) {q : List CueEntry} (hq : q ⊆ y.queue) :
    ShowController.Sound g c { y with queue := q } :=
  ⟨h.pages, fun e he => h.cues e (hq he), h.next, h.live, h.stacked⟩

/-- Every existing context changed by one operation, and NEXT by another. -/
theorem ShowController.Sound.map (h : y.Sound g c) {f : Context → Context} {n : Context → Context}
    (hnext : ∀ x, x.NextSound g c → (n x).NextSound g' c') (hf : ∀ x, x.Sound g c → (f x).Sound g' c')
    (hprep : ∀ x, (f x).prep = x.prep) :
    ShowController.Sound g' c' { y.mapContexts f with next := y.next.map n } := by
  have shown (x : Context) (hx : x.ShownSound g c) : (f x).ShownSound g' c' := ⟨hf x hx.1, (hprep x).trans hx.2⟩
  refine ⟨h.pages, h.cues, fun x hx => ?_, fun x hx => ?_, fun x hx => ?_⟩
  · obtain ⟨z, hz, rfl⟩ := Option.map_eq_some_iff.1 hx
    exact hnext z (h.next z hz)
  · obtain ⟨z, hz, rfl⟩ := Option.map_eq_some_iff.1 hx
    exact shown z (h.live z hz)
  · obtain ⟨e, he, hx⟩ := List.mem_map.1 hx
    obtain ⟨z, rfl, rfl⟩ := Option.map_eq_some_iff.1 hx
    exact shown z (h.stacked z he)

/-- The rules of the stack see only which of its places, and whether LIVE, hold a context. -/
theorem ShowController.StackSound.map (h : y.StackSound) (f : Context → Context) (n : Option Context) :
    ShowController.StackSound { y.mapContexts f with next := n } := by
  obtain ⟨hlive, hmarkers⟩ := h
  refine ⟨fun hne => ?_, fun e he => ?_⟩
  · simpa [ShowController.mapContexts] using hlive fun he => hne (by simp [ShowController.mapContexts, he])
  · have he : e ∈ (y.stack.map fun e => e.map f).tail := he
    rw [← List.map_tail] at he
    obtain ⟨z, hz, rfl⟩ := List.mem_map.1 he
    simpa using hmarkers z hz

theorem mem_tail_set {α : Type} {l : List α} {i : Nat} {v e : α} (h : e ∈ (l.set i v).tail) : e ∈ l.tail ∨ e = v := by
  cases l with
  | nil => cases h
  | cons z zs =>
    cases i with
    | zero => exact .inl h
    | succ i => exact List.mem_or_eq_of_mem_set h

/-- A context put in a place keeps the rules of the stack. -/
theorem ShowController.StackSound.put (h : y.StackSound) (place : ContextPlace) (x : Context) :
    (y.put place x).StackSound := by
  obtain ⟨hlive, hmarkers⟩ := h
  cases place with
  | next => exact ⟨hlive, hmarkers⟩
  | live => exact ⟨fun _ => rfl, hmarkers⟩
  | stack i =>
    refine ⟨fun hne => hlive fun he => hne (by simp [ShowController.put, he]), fun e he => ?_⟩
    have he : e ∈ (y.stack.set i (some x)).tail := he
    rcases mem_tail_set he with he | rfl
    · exact hmarkers e he
    · rfl

theorem ShowController.Sound.putShown (h : y.Sound g c) {place : ContextPlace} (hp : place ≠ .next) {x : Context}
    (hx : x.ShownSound g c) : (y.put place x).Sound g c := by
  cases place with
  | next => exact absurd rfl hp
  | live => exact ⟨h.pages, h.cues, h.next, fun z hz => Option.some.inj hz ▸ hx, h.stacked⟩
  | stack i =>
    refine ⟨h.pages, h.cues, h.next, h.live, fun z hz => ?_⟩
    rcases List.mem_or_eq_of_mem_set hz with hz | hz
    · exact h.stacked z hz
    · exact Option.some.inj hz ▸ hx

/-- A context in a place other than NEXT keeps the rules of those on air. -/
theorem ShowController.Sound.at_shown (h : y.Sound g c) {place : ContextPlace} (hp : place ≠ .next) {x : Context}
    (hx : y.at place = some x) : x.ShownSound g c := by
  cases place with
  | next => exact absurd rfl hp
  | live => exact h.live x hx
  | stack i => exact h.stacked x (List.mem_of_getElem? (Option.join_eq_some_iff.1 hx))

/-- With the stack empty there is nothing to see. -/
theorem ShowController.stackSound_nil (h : y.stack = []) : y.StackSound :=
  ⟨fun hne => absurd h hne, by simp [h]⟩

/-- LIVE is stacked, and another context goes on air (R113). -/
theorem ShowController.StackSound.push (h : y.StackSound) (x : Context) :
    ShowController.StackSound { y with stack := y.stack ++ [y.live], live := some x } := by
  refine ⟨fun _ => rfl, fun e he => ?_⟩
  have he : e ∈ (y.stack ++ [y.live]).tail := he
  cases hs : y.stack with
  | nil => simp [hs] at he
  | cons z zs =>
    rw [hs, List.cons_append, List.tail_cons, List.mem_append, List.mem_singleton] at he
    rcases he with he | rfl
    · exact h.2 e (by simpa [hs] using he)
    · exact h.1 (by simp [hs])

/-- The top of the stack goes on air again (R115): an empty marker only from the bottom. -/
theorem ShowController.StackSound.pop (h : y.StackSound) {rest : List (Option Context)} {top : Option Context}
    (hs : y.stack = rest ++ [top]) : ShowController.StackSound { y with live := top, stack := rest } := by
  obtain ⟨-, hmarkers⟩ := h
  cases rest with
  | nil => exact ShowController.stackSound_nil rfl
  | cons z zs =>
    exact ⟨fun _ => hmarkers top (by simp [hs]), fun e he => hmarkers e (by simp [hs, show e ∈ zs from he])⟩

end Controller

end Sys2Proof.Machine
end

section
/-! PROOFS. Every operation of the generator keeps the rules of the show and the capacities: first the operations that
leave the Show Controller as it stands, then its own. -/

namespace Sys2Proof.Machine

/-! ### What an operation keeps -/

/-- What an operation keeps of the show and of the capacities. -/
structure State.Keeps (s t : State) : Prop where
  shows : s.ShowSound → t.ShowSound
  stack : s.StackSound → t.StackSound
  bounded : s.Bounded → t.Bounded

theorem State.Keeps.refl (s : State) : s.Keeps s := ⟨id, id, id⟩

theorem State.Keeps.trans {s t u : State} (h : s.Keeps t) (k : t.Keeps u) : s.Keeps u :=
  ⟨k.shows ∘ h.shows, k.stack ∘ h.stack, k.bounded ∘ h.bounded⟩

/-- The ranges of the Load Governor (R152, R153). -/
structure Governor.Bounded (x : Governor) : Prop where
  level : x.level ≤ 3
  lateWindow : x.window.length ≤ 50 ∧ lateCount x.window ≤ 2
  run : x.run ≤ 249

/-- No port buffers more than two frames (R166). -/
def Ports.Bounded (ps : Ports) : Prop := ∀ p, (ps.get p).buffer.length ≤ 2

theorem State.bounded_iff (s : State) : s.Bounded ↔
    s.ingest.queue.length ≤ 64 ∧ s.ctl.Bounded ∧ s.ports.Bounded ∧ s.composer.governor.Bounded :=
  ⟨fun ⟨h1, h2, h3, h4, h5, h6, h7⟩ => ⟨h1, ⟨h2, h3⟩, h4, h5, h6, h7⟩,
    fun ⟨h1, ⟨h2, h3⟩, h4, h5, h6, h7⟩ => ⟨h1, h2, h3, h4, h5, h6, h7⟩⟩

/-- What the rules of the show and the capacities see of a state. -/
structure ShowView where
  ctl : ShowController
  grid : Option Grid
  coast : CoastStore
  queue : List QueueEntry
  ports : Ports
  governor : Governor

def State.showView (s : State) : ShowView :=
  { ctl := s.ctl, grid := s.field.grid, coast := s.coast, queue := s.ingest.queue, ports := s.ports,
    governor := s.composer.governor }

/-- A change that the rules see only in the Show Controller, the grid and the coast store. -/
theorem State.Keeps.of_ctl {s t : State} (view : t.showView = { s.showView with
      ctl := t.ctl, grid := t.field.grid, coast := t.coast })
    (shows : s.ctl.Sound s.field.grid s.coast → s.ctl.Built → t.ctl.Sound t.field.grid t.coast ∧ t.ctl.Built)
    (stack : s.ctl.StackSound → t.ctl.StackSound) (bounded : s.ctl.Bounded → t.ctl.Bounded) : s.Keeps t := by
  refine ⟨fun h => ?_, fun h => ?_, fun h => ?_⟩
  · rw [State.showSound_iff] at h ⊢
    exact shows h.1 h.2
  · rw [State.stackSound_iff] at h ⊢
    exact stack h
  · rw [State.bounded_iff] at h ⊢
    obtain ⟨hqueue, hctl, hports, hgovernor⟩ := h
    have queue : t.ingest.queue = s.ingest.queue := congrArg ShowView.queue view
    have ports : t.ports = s.ports := congrArg ShowView.ports view
    have governor : t.composer.governor = s.composer.governor := congrArg ShowView.governor view
    exact ⟨queue ▸ hqueue, bounded hctl, ports ▸ hports, governor ▸ hgovernor⟩

/-- A change that the rules see only in what has a capacity: the Ingest Queue, the ports and the Load Governor. -/
theorem State.Keeps.of_capacity {s t : State} (view : t.showView = { s.showView with
      queue := t.ingest.queue, ports := t.ports, governor := t.composer.governor })
    (queue : s.ingest.queue.length ≤ 64 → t.ingest.queue.length ≤ 64) (ports : s.ports.Bounded → t.ports.Bounded)
    (governor : s.composer.governor.Bounded → t.composer.governor.Bounded) : s.Keeps t := by
  have ctl : t.ctl = s.ctl := congrArg ShowView.ctl view
  refine ⟨fun h => ?_, fun h => ?_, fun h => ?_⟩
  · have grid : t.field.grid = s.field.grid := congrArg ShowView.grid view
    have coast : t.coast = s.coast := congrArg ShowView.coast view
    rw [State.showSound_iff] at h ⊢
    rwa [ctl, grid, coast]
  · rw [State.stackSound_iff] at h ⊢
    rwa [ctl]
  · rw [State.bounded_iff] at h ⊢
    rw [ctl]
    obtain ⟨hqueue, hctl, hports, hgovernor⟩ := h
    exact ⟨queue hqueue, hctl, ports hports, governor hgovernor⟩

/-- A change that the rules do not see. -/
theorem State.Keeps.of_still {s t : State} (view : t.showView = s.showView) : s.Keeps t :=
  have queue : t.ingest.queue = s.ingest.queue := congrArg ShowView.queue view
  have ports : t.ports = s.ports := congrArg ShowView.ports view
  have governor : t.composer.governor = s.composer.governor := congrArg ShowView.governor view
  .of_capacity (by rw [view, queue, ports, governor]; rfl) (queue ▸ id) (ports ▸ id) (governor ▸ id)

section Chains

variable {s t : State}

theorem Ports.Bounded.map {ps : Ports} (h : ps.Bounded) {f : PortState → PortState}
    (hf : ∀ x, (f x).buffer = x.buffer) :
    (ps.map f).Bounded := fun p => by simpa [hf] using h p

theorem Ports.Bounded.set {ps : Ports} (h : ps.Bounded) {p : Port} {x : PortState} (hx : x.buffer.length ≤ 2) :
    (ps.set p x).Bounded := fun q => by
  by_cases hq : q = p
  · subst hq
    simpa using hx
  · simpa [Ports.get_set_ne ps hq] using h q

theorem State.Keeps.raise (h : s.Keeps t) {e : Notice} : s.Keeps (t.raise e) :=
  h.trans (.of_capacity rfl id (fun h => h.map fun _ => rfl) id)

theorem State.Keeps.raiseIf (h : s.Keeps t) {b : Bool} {e : Notice} : s.Keeps (t.raiseIf b e) := by
  cases b
  · exact h
  · exact h.raise

theorem State.Keeps.modifyPort (h : s.Keeps t) {p : Port} {f : PortState → PortState}
    (hf : (t.ports.get p).buffer.length ≤ 2 → (f (t.ports.get p)).buffer.length ≤ 2) : s.Keeps (t.modifyPort p f) :=
  h.trans (.of_capacity rfl id (fun h => h.set (hf (h p))) id)

theorem State.Keeps.at (h : s.Keeps t) {n : Nat} : s.Keeps (t.at n) := h.trans (.of_still rfl)

theorem State.Keeps.withTiming (h : s.Keeps t) {x : FrameTiming} : s.Keeps (t.withTiming x) := h.trans (.of_still rfl)

theorem State.Keeps.withOutput (h : s.Keeps t) {x : OutputStage} : s.Keeps (t.withOutput x) := h.trans (.of_still rfl)

theorem State.Keeps.withFeed (h : s.Keeps t) {x : FeedMonitor} : s.Keeps (t.withFeed x) := h.trans (.of_still rfl)

theorem State.Keeps.withEval (h : s.Keeps t) {x : Evaluator} : s.Keeps (t.withEval x) := h.trans (.of_still rfl)

theorem State.Keeps.withField (h : s.Keeps t) {f : FieldStore} (hf : f.grid = t.field.grid) :
    s.Keeps (t.withField f) :=
  h.trans (.of_still (congrArg (fun g => { t.showView with grid := g }) hf))

theorem State.Keeps.withIngest (h : s.Keeps t) {x : Ingest}
    (hx : t.ingest.queue.length ≤ 64 → x.queue.length ≤ 64) : s.Keeps (t.withIngest x) :=
  h.trans (.of_capacity rfl hx id id)

theorem State.Keeps.withComposer (h : s.Keeps t) {x : Composer}
    (hx : t.composer.governor.Bounded → x.governor.Bounded) : s.Keeps (t.withComposer x) :=
  h.trans (.of_capacity rfl id id hx)

theorem State.Keeps.beginComposition (h : s.Keeps t) {x : Snapshot} : s.Keeps (t.beginComposition x) :=
  h.withComposer id

/-- A store whose state is kept serves the same cuts. -/
theorem State.Keeps.withCoast (h : s.Keeps t) {c : CoastStore} (hc : c.state = t.coast.state) :
    s.Keeps (t.withCoast c) := by
  have under {x : Context} (hx : x.Sound t.field.grid t.coast) : x.Sound t.field.grid c :=
    hx.cut (hx.coastPart.congr hc)
  refine h.trans (.of_ctl rfl (fun h hb => ⟨⟨h.pages, h.cues, fun x hx => ?_, fun x hx => ?_, fun x hx => ?_⟩, hb⟩)
    id id)
  · obtain ⟨hsound, hstart, hprep, hcut⟩ := h.next x hx
    exact ⟨under hsound, hstart, hprep, hcut⟩
  · exact ⟨under (h.live x hx).1, (h.live x hx).2⟩
  · exact ⟨under (h.stacked x hx).1, (h.stacked x hx).2⟩

/-- A change of the Show Controller alone. -/
theorem State.Keeps.withCtl (h : s.Keeps t) {y : ShowController}
    (sound : t.ctl.Sound t.field.grid t.coast → t.ctl.Built → y.Sound t.field.grid t.coast ∧ y.Built)
    (stack : t.ctl.StackSound → y.StackSound) (bounded : t.ctl.Bounded → y.Bounded) : s.Keeps (t.withCtl y) :=
  h.trans (.of_ctl rfl sound stack bounded)

/-- What every change of what is on air begins with. -/
theorem State.Keeps.offAir (h : s.Keeps t) {refs : List SlotRef} : s.Keeps (t.offAir refs) :=
  (h.withField (FieldStore.grid_releaseAll _ _)).withEval

end Chains

variable (s : State)

/-! ### The Feed Monitor -/

theorem State.erroredRecord_keeps : s.Keeps s.erroredRecord := by
  unfold State.erroredRecord
  dsimp only
  split
  · split
    · exact (State.Keeps.refl s).withFeed.raise
    · exact (State.Keeps.refl s).withFeed
  · exact (State.Keeps.refl s).withFeed

theorem State.endWindow_keeps : s.Keeps s.endWindow := by
  unfold State.endWindow
  dsimp only
  split
  · split
    · exact (State.Keeps.refl s).withFeed.raise
    · exact (State.Keeps.refl s).withFeed
  · split
    · exact (State.Keeps.refl s).withFeed.raise
    · exact (State.Keeps.refl s).withFeed

theorem State.expireStale_keeps : s.Keeps s.expireStale := by
  unfold State.expireStale
  dsimp only
  split
  · exact (State.Keeps.refl s).withFeed
  · exact (State.Keeps.refl s).withFeed.raise

theorem State.goodIngestFrame_keeps : s.Keeps s.goodIngestFrame := by
  unfold State.goodIngestFrame
  dsimp only
  split
  · exact (State.Keeps.refl s).withFeed.raise
  · exact (State.Keeps.refl s).withFeed

theorem State.restartFeed_keeps : s.Keeps s.restartFeed := by
  unfold State.restartFeed
  dsimp only
  split
  · exact (State.Keeps.refl s).withFeed.raise
  · exact (State.Keeps.refl s).withFeed

theorem State.passSeconds_keeps (n : Nat) : s.Keeps (s.passSeconds n) := .of_still rfl

theorem State.tick_keeps : s.Keeps s.tick := by
  have pass := s.passSeconds_keeps 1
  unfold State.tick
  dsimp only
  split
  · exact .refl s
  · split
    · split
      · split
        · exact pass.trans ((State.endWindow_keeps _).trans (State.expireStale_keeps _))
        · exact pass.trans ((State.expireStale_keeps _).trans (State.endWindow_keeps _))
      · exact pass.trans (State.endWindow_keeps _)
    · split
      · exact pass.trans (State.expireStale_keeps _)
      · exact pass

/-! ### Forecast ingest (R28) -/

theorem State.dropLoad_keeps (l : OpenLoad) (o : LoadOutcome) (k : Option Nat) : s.Keeps (s.dropLoad l o k) :=
  .of_still rfl

theorem State.publishLoad_keeps (l : OpenLoad) (n : Nat) : s.Keeps (s.publishLoad l n) :=
  (((State.Keeps.refl s).withField (FieldStore.grid_publish _ _)).withIngest (by exact id)).raise.raiseIf

theorem State.judgeClose_keeps : s.Keeps s.judgeClose := by
  unfold State.judgeClose
  split
  · exact .refl s
  · dsimp only
    split
    · exact s.publishLoad_keeps _ _
    · exact (s.dropLoad_keeps _ _ _).raise

/-- The Assembler only takes from the queue (R29). -/
theorem State.takeHead_keeps : s.Keeps s.takeHead := by
  unfold State.takeHead
  split
  · exact .refl s
  · split
    · exact .refl s
    · next b rest hq => exact (State.Keeps.refl s).withIngest fun h => Nat.le_of_succ_le (by rwa [hq] at h)
    · next rest hq =>
      exact ((State.Keeps.refl s).withIngest fun h => Nat.le_of_succ_le (by rwa [hq] at h)).trans
        (State.judgeClose_keeps _)

theorem State.cancelLoad_keeps (l : OpenLoad) : s.Keeps (s.cancelLoad l) := by
  unfold State.cancelLoad
  dsimp only
  split
  · exact ((State.Keeps.refl s).withIngest fun _ => Nat.zero_le _).withIngest (by exact id)
  · exact ((State.Keeps.refl s).withIngest fun _ => Nat.zero_le _).trans (State.dropLoad_keeps _ _ _ _)

theorem State.writeBlock_keeps (l : OpenLoad) (b : CellBlock) : s.Keeps (s.writeBlock l b) := .of_still rfl

theorem State.completeDrain_keeps (b : CellBlock) : s.Keeps (s.completeDrain b) := by
  have landed : s.Keeps (s.withIngest { s.ingest with inFlight := none }) := (State.Keeps.refl s).withIngest id
  unfold State.completeDrain
  dsimp only
  split
  · exact landed
  · split
    · exact landed.trans (State.dropLoad_keeps _ _ _ _)
    · split
      · exact (landed.trans (State.writeBlock_keeps _ _ b)).trans (State.takeHead_keeps _)
      · exact ((landed.withIngest (by exact id)).trans (State.erroredRecord_keeps _)).trans (State.takeHead_keeps _)

/-- The queue takes an entry only while it has room (R26, R28). -/
theorem cellBlock_keeps (r c n : Nat) (v : List CellValue) : s.Keeps (cellBlock r c n v s).1 := by
  unfold cellBlock
  split
  · exact .refl s
  · split
    · exact .refl s
    · split
      · exact .refl s
      · split
        · exact .refl s
        · exact ((State.Keeps.refl s).withIngest fun _ => by simp; omega).trans (State.takeHead_keeps _)

theorem stepClose_keeps : s.Keeps (stepClose s).1 := by
  unfold stepClose
  split
  · exact .refl s
  · split
    · exact .refl s
    · split
      · exact .refl s
      · exact ((State.Keeps.refl s).withIngest fun _ => by simp; omega).trans (State.takeHead_keeps _)

theorem stepCancel_keeps : s.Keeps (stepCancel s).1 := by
  unfold stepCancel
  split
  · exact .refl s
  · dsimp only
    split
    · exact .refl s
    · exact s.cancelLoad_keeps _

theorem stepOpen_keeps (k c : Nat) (ws : List Nat) : s.Keeps (stepOpen k c ws s).1 := by
  by_cases hbad : 2 < c ∨ 16 < ws.length
  · rw [stepOpen_badLength hbad]
    exact .refl s
  · obtain ⟨hc, hws⟩ := not_or.1 hbad
    obtain ⟨fs, hfs⟩ := fieldSetOfCode_some (Nat.le_of_not_lt hc)
    rw [stepOpen_readable hfs (Nat.le_of_not_lt hws)]
    split
    · exact .refl s
    · split
      · exact .refl s
      · split
        · exact .refl s
        · split
          · exact .refl s
          · exact .of_still rfl

theorem stepDrop_keeps (k : Nat) : s.Keeps (stepDrop k s).1 := by
  unfold stepDrop
  split
  · exact .refl s
  · split
    · exact .refl s
    · exact (State.Keeps.refl s).withField (FieldStore.grid_leaveTimeline _ _)

theorem ingestReset_keeps : s.Keeps (ingestReset s).1 := by
  have clear : s.Keeps (s.resetPort .ip) := (State.Keeps.refl s).modifyPort id
  unfold ingestReset
  dsimp only
  refine State.Keeps.trans (State.Keeps.withIngest ?_ fun _ => Nat.zero_le _) (State.restartFeed_keeps _)
  split
  · split
    · exact clear
    · exact clear.trans (State.cancelLoad_keeps _ _)
  · exact clear

end Sys2Proof.Machine
end

section
/-! PROOFS. The Show Controller's own operations keep the rules of the show and the capacities. -/

namespace Sys2Proof.Machine

variable (s : State)

/-! ### Pages (R92 to R94) -/

/-- PAGE_WRITE stores a record within its ranges. -/
theorem adjustPage_sound (f : PageFields) (e : EndAction) : (adjustPage f e).Sound := by
  refine ⟨?_, ?_, ?_, ?_, ?_, fun k hk => ?_⟩
  · exact ⟨Nat.min_le_left _ _, Nat.min_le_left _ _⟩
  · simp only [adjustPage, clampNat]; omega
  · simp only [adjustPage, clampNat]; omega
  · simp only [adjustPage]; omega
  · simp only [adjustPage, clampNat]; omega
  · obtain ⟨j, -, rfl⟩ := Option.map_eq_some_iff.1 hk
    simp only [adjustPage]; omega

theorem Page.Sound.withLayers {p : Page} (h : p.Sound) (l : LayerSet) : Page.Sound { p with layers := l } :=
  ⟨h.origin, h.size, h.stride, h.hours, h.frames, h.start⟩

/-- The record of a page after another record, or none, is stored. -/
theorem ShowController.page_set (y : ShowController) (i j : PageId) (p : Option Page) :
    ShowController.page { y with pages := y.pages.set i p } j = if j = i then p else y.page j := by
  simp only [ShowController.page, Fin.getElem_fin, Vector.getElem_set, Fin.ext_iff]
  by_cases h : i.val = j.val <;> simp [h, eq_comm]

section Pages

variable {g : Option Grid} {c : CoastStore} {y : ShowController}

/-- A page written in its ranges, or undefined as it was. -/
theorem ShowController.Sound.setPage (h : y.Sound g c) {i : PageId} {p : Option Page} (hp : ∀ q, p = some q → q.Sound)
    (hdef : (y.page i).isSome = true → p.isSome = true) :
    ShowController.Sound g c { y with pages := y.pages.set i p } := by
  refine ⟨fun j q hq => ?_, fun e he => ?_, h.next, h.live, h.stacked⟩
  · rw [ShowController.page_set] at hq
    split at hq
    · exact hp q hq
    · exact h.pages j q hq
  · rw [ShowController.page_set]
    split
    · next hi => exact hdef (hi ▸ h.cues e he)
    · exact h.cues e he

theorem ShowController.Sound.setLayers (h : y.Sound g c) (l : LayerSet) (i : PageId) : (y.setLayers l i).Sound g c := by
  refine h.setPage (fun q hq => ?_) (by simp)
  obtain ⟨p, hp, rfl⟩ := Option.map_eq_some_iff.1 hq
  exact (h.pages i p hp).withLayers l

/-- PAGE_LAYERS touches the pages alone. -/
theorem foldl_setLayers_ctl (l : LayerSet) (is : List PageId) (y : ShowController) :
    ∃ pages, is.foldl (fun c i => c.setLayers l i) y = { y with pages := pages } := by
  induction is generalizing y with
  | nil => exact ⟨y.pages, rfl⟩
  | cons i is ih =>
    obtain ⟨pages, hp⟩ := ih (y.setLayers l i)
    exact ⟨pages, hp⟩

theorem ShowController.Sound.foldl_setLayers (h : y.Sound g c) (l : LayerSet) (is : List PageId) :
    (is.foldl (fun c i => c.setLayers l i) y).Sound g c := by
  induction is generalizing y with
  | nil => exact h
  | cons i is ih => exact ih (h.setLayers l i)

end Pages

theorem pageWrite_keeps (n : Nat) (f : PageFields) : s.Keeps (pageWrite n f s).1 := by
  unfold pageWrite
  split
  · exact .refl s
  · split
    · exact .refl s
    · next e _ =>
      refine (State.Keeps.refl s).withCtl (fun h hb => ⟨h.setPage (fun q hq => ?_) fun _ => rfl, hb⟩) id id
      exact Option.some.inj hq ▸ adjustPage_sound f e

theorem pageLayers_keeps (mask : BitVec 32) (l : LayerSet) : s.Keeps (pageLayers mask l s).1 := by
  obtain ⟨pages, hp⟩ := foldl_setLayers_ctl l (maskedPages mask) s.ctl
  exact (State.Keeps.refl s).withCtl (fun h hb => ⟨h.foldl_setLayers l _, hp ▸ hb⟩) (fun h => hp ▸ h) (fun h => hp ▸ h)

/-! ### The build of a context and of NEXT (R96 to R98, R103, R104) -/

theorem effectiveStart_within {p : Page} (h : p.Sound) (k : Option Nat) :
    p.first ≤ effectiveStart p k ∧ effectiveStart p k ≤ p.last := by
  have := h.hours.1
  unfold effectiveStart
  omega

theorem State.buildContext_sound {p : Page} (h : p.Sound) (i : PageId) (o : Origin) (k : Option Nat) :
    Context.Sound s.field.grid s.coast (s.buildContext i p o k).2 := by
  obtain ⟨hlo, hhi⟩ := effectiveStart_within h k
  have steps : StepsWithin p.first p.last (s.buildContext i p o k).2.stepA (s.buildContext i p o k).2.stepB :=
    StepsWithin.mono (k := effectiveStart p k) .resolvePair hlo
  have cut := requestedCut_sound s.coast
  exact ⟨h, ⟨hlo, hhi⟩, rfl, steps.starved, steps.hours, steps.order, h.frames.1, cut.pending, cut.cutting, cut.pieces⟩

/-- Building NEXT can change NEXT and take cues from the queue, and nothing else of the controller. -/
theorem State.buildNext_ctl : ∃ next queue, s.buildNext.ctl = { s.ctl with next := next, queue := queue }
    ∧ queue.length ≤ s.ctl.queue.length := by
  unfold State.buildNext
  split
  · exact ⟨_, _, rfl, le_rfl⟩
  · split
    · exact ⟨_, _, rfl, le_rfl⟩
    · next e rest hq =>
      have hlen : rest.length ≤ s.ctl.queue.length := by simp [hq]
      split
      · exact ⟨_, _, rfl, hlen⟩
      · exact ⟨_, _, by simp only [State.raiseIf_ctl, State.withCtl_ctl]; rfl, hlen⟩

/-- NEXT is built from the cues, which name only defined pages. -/
theorem State.buildNext_shows (h : s.ctl.Sound s.field.grid s.coast) :
    s.buildNext.ctl.Sound s.field.grid s.coast ∧ s.buildNext.ctl.Built := by
  cases hnext : s.ctl.next with
  | some x =>
    have : s.buildNext = s := by unfold State.buildNext; simp [hnext]
    rw [this]
    exact ⟨h, fun hn => absurd (hnext.symm.trans hn) nofun⟩
  | none =>
    cases hq : s.ctl.queue with
    | nil =>
      have : s.buildNext = s := by unfold State.buildNext; simp [hnext, hq]
      rw [this]
      exact ⟨h, fun _ => hq⟩
    | cons e rest =>
      obtain ⟨p, hp⟩ := Option.isSome_iff_exists.1 (h.cues e (hq ▸ List.mem_cons_self))
      have built := s.buildContext_sound (h.pages _ _ hp) e.page .cued e.start
      rw [s.buildNext_built hnext hq hp]
      simp only [State.raiseIf_ctl, State.withCtl_ctl]
      refine ⟨⟨h.pages, fun d hd => h.cues d (hq ▸ List.mem_cons_of_mem e hd), fun x hx => ?_, h.live, h.stacked⟩,
        nofun⟩
      obtain rfl := Option.some.inj hx
      refine ⟨built.prepare _, ⟨rfl, rfl⟩, rfl, fun hprep => ?_⟩
      by_contra hcut
      simp [Context.cutting, hcut] at hprep

theorem State.raiseIf_bounded {b : Bool} {e : Notice} (h : s.ports.Bounded) : (s.raiseIf b e).ports.Bounded := by
  cases b
  · exact h
  · exact h.map fun _ => rfl

theorem State.buildNext_bounded (h : s.ports.Bounded) : s.buildNext.ports.Bounded := by
  unfold State.buildNext
  split
  · exact h
  · split
    · exact h
    · split
      · exact h
      · exact State.raiseIf_bounded _ (State.raiseIf_bounded _ h)

/-- A change of the Show Controller alone, and then NEXT is built. -/
theorem State.Keeps.build {s t : State} (h : s.Keeps t) {y : ShowController}
    (sound : t.ctl.Sound t.field.grid t.coast → y.Sound t.field.grid t.coast)
    (stack : t.ctl.StackSound → y.StackSound) (bounded : t.ctl.Bounded → y.Bounded) :
    s.Keeps (t.withCtl y).buildNext := by
  obtain ⟨next, queue, hctl, hlen⟩ := (t.withCtl y).buildNext_ctl
  have grid : (t.withCtl y).buildNext.field.grid = t.field.grid := (t.withCtl y).buildNext_plays.grid
  have coast : (t.withCtl y).buildNext.coast = t.coast := by simp
  refine h.trans ⟨fun h => ?_, fun h => ?_, fun h => ?_⟩
  · rw [State.showSound_iff] at h ⊢
    rw [grid, coast]
    exact (t.withCtl y).buildNext_shows (sound h.1)
  · rw [State.stackSound_iff] at h ⊢
    rw [hctl]
    exact stack h
  · rw [State.bounded_iff] at h ⊢
    obtain ⟨hingest, hcues, hports, hgovernor⟩ := h
    obtain ⟨hq, hs⟩ := bounded hcues
    exact ⟨by simpa using hingest, by rw [hctl]; exact ⟨hlen.trans hq, hs⟩, State.buildNext_bounded _ hports,
      by simpa using hgovernor⟩

/-! ### CUE to DESK_RESET (R101 to R122) -/

theorem cue_keeps (n : Nat) (k : Option Nat) : s.Keeps (cue n k s).1 := by
  unfold cue
  split
  · exact .refl s
  · next i p hdef =>
    split
    · exact .refl s
    · split
      · exact .refl s
      · next hroom =>
        have hpage : (s.ctl.page i).isSome = true := by rw [(ShowController.definedPage_some_iff.1 hdef).2]; rfl
        refine (State.Keeps.refl s).build (fun h => ⟨h.pages, fun e he => ?_, h.next, h.live, h.stacked⟩) id
          fun h => ⟨?_, h.2⟩
        · rcases List.mem_append.1 he with he | he
          · exact h.cues e he
          · obtain rfl := List.mem_singleton.1 he
            exact hpage
        · rw [List.length_append, List.length_singleton]
          omega

theorem cueClear_keeps : s.Keeps (cueClear s).1 :=
  (State.Keeps.refl s).withCtl (fun h _ => ⟨h.unqueue (List.nil_subset _), fun _ => rfl⟩) id
    fun h => ⟨Nat.zero_le _, h.2⟩

theorem cueWithdraw_keeps : s.Keeps (cueWithdraw s).1 := by
  unfold cueWithdraw
  split
  · exact .refl s
  · next x _ =>
    have released : s.Keeps (s.releaseContext x) := (State.Keeps.refl s).withField (FieldStore.grid_releaseAll _ _)
    exact released.build (y := { s.ctl with next := none }) (fun h => h.contexts (by simp) h.live h.stacked) id id

theorem State.takeNext_keeps {x : Context} (hx : s.ctl.next = some x) : s.Keeps (s.takeNext x) := by
  rw [State.takeNext_eq]
  exact (State.Keeps.refl s).offAir.build
    (fun h => h.contexts (by simp) (fun z hz => Option.some.inj hz ▸ (h.next x hx).shown) h.stacked)
    (fun h => ⟨fun _ => rfl, h.2⟩) id

/-- A stack emptied (R109, R110). -/
theorem State.releaseStack_keeps : s.Keeps s.releaseStack := by
  rw [State.releaseStack_eq]
  exact ((State.Keeps.refl s).withField (FieldStore.grid_releaseAll _ _)).withCtl
    (fun h hb => ⟨h.contexts h.next h.live (by simp), hb⟩) (fun _ => ShowController.stackSound_nil rfl)
    (fun h => ⟨h.1, Nat.zero_le _⟩)

theorem take_keeps : s.Keeps (take s).1 := by
  unfold take
  split
  · exact .refl s
  · next x hx =>
    split
    · exact .refl s
    · exact s.takeNext_keeps hx

theorem takeForce_keeps : s.Keeps (takeForce s).1 := by
  unfold takeForce
  split
  · exact .refl s
  · next x hx => exact s.releaseStack_keeps.trans (State.takeNext_keeps _ (by rw [State.releaseStack_ctl]; exact hx))

theorem clear_keeps : s.Keeps (clear s).1 := by
  rw [clear_eq]
  exact (State.Keeps.refl s).offAir.withCtl (fun h hb => ⟨h.contexts h.next (by simp) (by simp), hb⟩)
    (fun _ => ShowController.stackSound_nil rfl) (fun h => ⟨h.1, Nat.zero_le _⟩)

theorem insert_keeps (n : Nat) : s.Keeps (insert n s).1 := by
  unfold insert
  split
  · exact .refl s
  · next hroom =>
    split
    · exact .refl s
    · next i p hdef =>
      have built : s.Keeps (s.withField (s.buildContext i p .insert none).1) :=
        (State.Keeps.refl s).withField (FieldStore.grid_takeAll _ _)
      refine State.Keeps.withEval (State.Keeps.withEval (built.withCtl
        (y := { s.ctl with stack := s.ctl.stack ++ [s.ctl.live], live := some (s.buildContext i p .insert none).2 })
        (fun h hb => ⟨h.contexts h.next (fun x hx => ?_) fun x hx => ?_, hb⟩) (fun h => h.push _) fun h => ⟨h.1, ?_⟩))
      · obtain ⟨-, hpage⟩ := ShowController.definedPage_some_iff.1 hdef
        have sound := s.buildContext_sound (h.pages i p hpage) i .insert none
        have grid : (s.buildContext i p .insert none).1.grid = s.field.grid := FieldStore.grid_takeAll _ _
        exact Option.some.inj hx ▸ ⟨grid ▸ sound, rfl⟩
      · rcases List.mem_append.1 hx with hx | hx
        · exact h.stacked x hx
        · exact h.live x (List.mem_singleton.1 hx).symm
      · rw [List.length_append, List.length_singleton]
        omega

theorem insertEnd_keeps : s.Keeps (insertEnd s).1 := by
  cases hs : s.ctl.stack.getLast? with
  | none =>
    unfold insertEnd
    rw [hs]
    exact .refl s
  | some top =>
    obtain ⟨rest, hstack⟩ := List.getLast?_eq_some_iff.1 hs
    have hmem {e : Option Context} (he : e ∈ rest ∨ e = top) : e ∈ s.ctl.stack := by simpa [hstack] using he
    have hlen : rest.length ≤ s.ctl.stack.length := by simp [hstack]
    rw [insertEnd_eq s hstack]
    exact (State.Keeps.refl s).offAir.withCtl
      (fun h hb => ⟨h.contexts h.next (fun x hx => h.stacked x (hmem (.inr hx.symm)))
        fun x hx => h.stacked x (hmem (.inl hx)), hb⟩)
      (fun h => h.pop hstack) (fun h => ⟨h.1, hlen.trans h.2⟩)

theorem hold_keeps : s.Keeps (hold s).1 :=
  (State.Keeps.refl s).withCtl (fun h hb => ⟨h.contexts h.next h.live h.stacked, hb⟩) id id

theorem resume_keeps : s.Keeps (resume s).1 :=
  (State.Keeps.refl s).withCtl (fun h hb => ⟨h.contexts h.next h.live h.stacked, hb⟩) id id

theorem deskReset_keeps : s.Keeps (deskReset s).1 := by
  rw [deskReset_eq]
  refine (((State.Keeps.refl s).withField (FieldStore.grid_releaseAll _ _)).modifyPort ?_).withCtl
    (fun h _ => ⟨(h.unqueue (List.nil_subset _)).contexts (by simp) h.live h.stacked, fun _ => rfl⟩) id
    (fun h => ⟨Nat.zero_le _, h.2⟩)
  exact id

/-- LIVE's steps replaced by others within its page's hours. -/
theorem State.moveLive_keeps {x : Context} (hx : s.ctl.live = some x) {a b : Option SlotRef} {n : Nat} {e : Bool}
    (steps : x.Sound s.field.grid s.coast → StepsWithin x.copy.first x.copy.last a b)
    (phase : x.Sound s.field.grid s.coast → n < x.copy.framesPerStep) : s.Keeps (s.moveLive x a b n e) := by
  have grid : (s.field.move (refsOf a b) x.refs).grid = s.field.grid := FieldStore.grid_move _ _ _
  refine ((State.Keeps.refl s).withField grid).withCtl
    (fun h hb => ⟨h.contexts h.next (fun z hz => ?_) h.stacked, hb⟩) (fun h => ⟨fun _ => rfl, h.2⟩) id
  obtain ⟨hsound, hprep⟩ := h.live x hx
  rw [State.withField_field, grid] at hsound ⊢
  exact Option.some.inj hz ▸ ⟨hsound.move (steps hsound) (phase hsound), hprep⟩

theorem jump_keeps (k : Nat) : s.Keeps (jump k s).1 := by
  unfold jump
  split
  · exact .refl s
  · split
    · exact .refl s
    · next x hx =>
      exact (s.moveLive_keeps hx (fun _ => StepsWithin.resolvePair.mono (le_max_right _ _))
        fun h => h.copy.frames.1).withEval

end Sys2Proof.Machine
end

section
/-! PROOFS. The operations that change the cuts of the contexts, the animation of LIVE, the Composer and the frame
starts keep the rules of the show and the capacities. -/

namespace Sys2Proof.Machine

variable (s : State)

/-! ### Cuts (R55 to R61) -/

theorem Context.NextSound.answered {g : Option Grid} {c : CoastStore} {x : Context} (h : x.NextSound g c) :
    x.prepared.NextSound g c := h.prepared h.sound.coastPart

/-- NEXT answered, with the other contexts as they stand. -/
theorem State.answerNext_keeps : s.Keeps s.answerNext := by
  rw [State.answerNext_eq]
  refine ((State.Keeps.refl s).withCtl (y := { s.ctl with next := s.ctl.next.map Context.prepared })
    (fun h hb => ⟨h.contexts (fun x hx => ?_) h.live h.stacked, fun hn => hb (by simpa using hn)⟩) id id).raiseIf
  obtain ⟨z, hz, rfl⟩ := Option.map_eq_some_iff.1 hx
  exact (h.next z hz).answered

theorem State.completeCut_keeps (place : ContextPlace) : s.Keeps (s.completeCut place) := by
  by_cases hcut : ∃ x, s.ctl.at place = some x ∧ x.coast.cut = .cutting
  · obtain ⟨x, hx, hc⟩ := hcut
    have done := completedCut_sound (c' := s.coast) s.coast x.window
    by_cases hp : place = .next
    · subst hp
      have hprepared : Context.prepared { x with coast := completedCut s.coast x.window } = { x with
          coast := completedCut s.coast x.window
          prep := if x.prep = some .preparing then some .ready else x.prep } := by
        unfold Context.prepared
        split <;> rfl
      rw [State.completeCut_next hx hc, ← hprepared]
      refine ((State.Keeps.refl s).withCtl
        (y := { s.ctl with next := some (Context.prepared { x with coast := completedCut s.coast x.window }) })
        (fun h hb => ⟨h.contexts (fun z hz => ?_) h.live h.stacked, fun hn => by simp at hn⟩) id id).raiseIf
      exact Option.some.inj hz ▸ (h.next x hx).prepared done
    · rw [State.completeCut_cutting hx hc hp]
      refine (State.Keeps.refl s).withCtl
        (fun h hb => ⟨h.putShown hp ?_, ?_⟩) (fun h => h.put place _) (fun h => ?_)
      · obtain ⟨hsound, hprep⟩ := h.at_shown hp hx
        exact ⟨hsound.cut done, hprep⟩
      · cases place with
        | next => exact absurd rfl hp
        | live | stack => exact hb
      · cases place with
        | next | live => exact h
        | stack i => exact ⟨h.1, (List.length_set ..).trans_le h.2⟩
  · rw [State.completeCut_idle fun x hx hc => hcut ⟨x, hx, hc⟩]
    exact .refl s

/-- Every context changed by one operation, and NEXT by another, with the grid and the coast store that come with it. -/
theorem State.Keeps.of_contexts {s t : State} {f n : Context → Context}
    (view : t.showView = { s.showView with
      ctl := { s.ctl.mapContexts f with next := s.ctl.next.map n }, grid := t.field.grid, coast := t.coast })
    (hnext : ∀ x, x.NextSound s.field.grid s.coast → (n x).NextSound t.field.grid t.coast)
    (hf : ∀ x, x.Sound s.field.grid s.coast → (f x).Sound t.field.grid t.coast) (hprep : ∀ x, (f x).prep = x.prep) :
    s.Keeps t := by
  have ctl : t.ctl = { s.ctl.mapContexts f with next := s.ctl.next.map n } := congrArg ShowView.ctl view
  refine .of_ctl (by rw [view, ctl]) (fun h hb => ?_) (fun h => ?_) (fun h => ?_)
  · rw [ctl]
    exact ⟨h.map hnext hf hprep, fun hn => hb (by simpa using hn)⟩
  · rw [ctl]
    exact h.map f _
  · rw [ctl]
    exact ⟨h.1, (List.length_map ..).trans_le h.2⟩

/-- The cuts in flight are abandoned, and NEXT is answered (R61, R104). -/
theorem coastBegin_fst :
    (coastBegin s).1 = ((s.withCoast { state := .loading, vertices := [], polylines := [], marker := none }).withCtl
      { s.ctl.mapContexts Context.abandonCut with next := s.ctl.next.map fun x => x.abandonCut.prepared }).raiseIf
        ((s.ctl.next.map Context.abandonCut).any fun x => decide (x.prep = some .preparing)) .nextReady := by
  have hnext : (s.ctl.next.map Context.abandonCut).map Context.prepared
      = s.ctl.next.map fun x => x.abandonCut.prepared := Option.map_map ..
  refine (State.answerNext_eq _).trans ?_
  simp only [State.withCtl_ctl, ShowController.mapContexts, hnext]
  rfl

theorem coastBegin_keeps : s.Keeps (coastBegin s).1 := by
  rw [coastBegin_fst]
  refine State.Keeps.raiseIf ?_
  exact .of_contexts (f := Context.abandonCut) (n := fun x => x.abandonCut.prepared) rfl
    (fun x h => h.abandoned) (fun x h => Context.abandonCut_sound h) Context.abandonCut_prep

theorem refuseLine_keeps (o : OutcomeCode) : s.Keeps (refuseLine s o).1 :=
  (State.Keeps.refl s).withCoast rfl

theorem coastLineNew_keeps (k : Nat) (b : Bool) (vs : List Vertex) : s.Keeps (coastLineNew k b vs s).1 := by
  unfold coastLineNew
  dsimp only
  split
  · exact refuseLine_keeps s _
  · split
    · exact refuseLine_keeps s _
    · split
      · exact refuseLine_keeps s _
      · split
        · exact refuseLine_keeps s _
        · exact (State.Keeps.refl s).withCoast rfl

theorem coastLineContinue_keeps (vs : List Vertex) : s.Keeps (coastLineContinue vs s).1 := by
  unfold coastLineContinue
  dsimp only
  split
  · exact refuseLine_keeps s _
  · split
    · exact refuseLine_keeps s _
    · split
      · exact refuseLine_keeps s _
      · split
        · exact refuseLine_keeps s _
        · split
          · exact refuseLine_keeps s _
          · exact (State.Keeps.refl s).withCoast rfl

theorem Context.beginWaitingCut_prep (x : Context) : x.beginWaitingCut.prep = x.prep := by
  unfold Context.beginWaitingCut; split <;> rfl

theorem coastEnd_keeps : s.Keeps (coastEnd s).1 := by
  unfold coastEnd
  split
  · exact .refl s
  · exact .of_contexts (f := Context.beginWaitingCut) (n := Context.beginWaitingCut) rfl (fun x h => h.begun rfl)
      (fun x h => Context.beginWaitingCut_sound h rfl) Context.beginWaitingCut_prep

/-- The contexts take the new windows, and NEXT is answered where its cut is not to be run (R3). -/
theorem gridDefine_keeps (c n : Nat) : s.Keeps (gridDefine c n s).1 := by
  have answer (t : State) : t.Keeps t.answerAwaitingNext := by
    unfold State.answerAwaitingNext
    split
    · exact t.answerNext_keeps
    · exact .refl t
  unfold gridDefine
  split
  · exact .refl s
  · split
    · exact .refl s
    · refine State.Keeps.withEval (State.Keeps.trans (.of_contexts
        (f := Context.reclamp (some { columns := c, rows := n }) s.coast)
        (n := Context.reclamp (some { columns := c, rows := n }) s.coast) rfl (fun x h => h.reclamped)
        (fun x h => Context.reclamp_sound h) fun x => (Context.reclamp_frame _ _ x).2.2) (answer _))

/-! ### The Load Governor and the Composer (R145, R149, R153) -/

theorem lateCount_pushOutcome_le (w : List FrameOutcome) (o : FrameOutcome) :
    lateCount (pushOutcome w o) ≤ lateCount w + if o = .late then 1 else 0 := by
  have hdrop : (pushOutcome w o).Sublist (w ++ [o]) := List.drop_sublist _ _
  refine ((hdrop.filter fun o => o = .late).length_le).trans ?_
  cases o <;> simp [lateCount]

theorem length_pushOutcome_le {w : List FrameOutcome} (h : w.length ≤ 50) (o : FrameOutcome) :
    (pushOutcome w o).length ≤ 50 := by
  simp only [pushOutcome, List.length_drop, List.length_append, List.length_singleton]
  omega

theorem Governor.Bounded.late {x : Governor} (h : x.Bounded) : x.late.1.Bounded := by
  unfold Governor.late
  dsimp only
  split
  · refine ⟨?_, ⟨by simp, by simp [lateCount]⟩, by simp⟩
    have := h.level
    dsimp only
    split <;> omega
  · next hfew =>
    exact ⟨h.level, ⟨length_pushOutcome_le h.lateWindow.1 _, Nat.lt_succ_iff.1 (Nat.lt_of_not_le hfew)⟩, Nat.zero_le _⟩

theorem Governor.Bounded.onTime {x : Governor} (h : x.Bounded) : x.onTime.1.Bounded := by
  have lateWindow : (pushOutcome x.window .onTime).length ≤ 50 ∧ lateCount (pushOutcome x.window .onTime) ≤ 2 :=
    ⟨length_pushOutcome_le h.lateWindow.1 _, (lateCount_pushOutcome_le x.window .onTime).trans h.lateWindow.2⟩
  unfold Governor.onTime
  dsimp only
  split
  · exact ⟨(Nat.sub_le _ _).trans h.level, lateWindow, Nat.zero_le _⟩
  · exact ⟨h.level, lateWindow, by dsimp only; omega⟩

theorem State.judgeLate_keeps : s.Keeps s.judgeLate :=
  ((State.Keeps.refl s).withComposer (x := { s.composer with governor := s.composer.governor.late.1 })
    fun h => h.late).raiseIf

theorem State.judgeOnTime_keeps : s.Keeps s.judgeOnTime :=
  ((State.Keeps.refl s).withComposer (x := { s.composer with governor := s.composer.governor.onTime.1 })
    fun h => h.onTime).raiseIf

theorem State.snapshotArrives_keeps (x : Snapshot) : s.Keeps (s.snapshotArrives x) := by
  unfold State.snapshotArrives
  split
  · have late : s.Keeps (s.withComposer { s.composer with
        lateFrames := sat16 (s.composer.lateFrames + 1) }).judgeLate :=
      ((State.Keeps.refl s).withComposer (by exact id)).trans (State.judgeLate_keeps _)
    dsimp only
    split
    · exact late.withComposer id
    · exact (late.withField (FieldStore.grid_releaseAll _ _)).withComposer (by exact id)
  · exact s.judgeOnTime_keeps.beginComposition

theorem State.sendSnapshot_keeps : s.Keeps s.sendSnapshot :=
  ((State.Keeps.refl s).withField (FieldStore.grid_takeAll _ _)).trans (State.snapshotArrives_keeps _ _)

theorem State.withdrawGale_keeps : s.Keeps s.withdrawGale :=
  .of_capacity rfl id (fun h => h.map fun _ => rfl) id

theorem State.writeEvaluation_keeps (cells : List CellResult) (n : Nat) (sums : List AreaSummary) :
    s.Keeps (s.writeEvaluation cells n sums) := by
  unfold State.writeEvaluation
  dsimp only
  split
  · exact (State.Keeps.refl s).withEval.raiseIf.trans (State.withdrawGale_keeps _)
  · exact (State.Keeps.refl s).withEval.raiseIf

theorem State.completeComposition_keeps (x : Composition) : s.Keeps (s.completeComposition x) := by
  have written (t : State) (ht : s.Keeps t) (cells : List CellResult) (n : Nat) (sums : List AreaSummary) :
      s.Keeps ((t.withField (t.field.releaseAll x.snapshot.refs)).writeEvaluation cells n sums) :=
    (ht.withField (FieldStore.grid_releaseAll _ _)).trans (State.writeEvaluation_keeps _ _ _ _)
  unfold State.completeComposition
  dsimp only
  split
  · exact State.Keeps.beginComposition ((written _ ((State.Keeps.refl s).withComposer (by exact id)) _ _ _).withComposer
      (by exact id))
  · exact written _ ((State.Keeps.refl s).withComposer (by exact id)) _ _ _

/-! ### The animation of LIVE (R136 to R141) -/

section Sequencer

variable {s} {x : Context}

theorem State.advanceTake_keeps : s.Keeps s.advanceTake := by
  unfold State.advanceTake
  split
  · next n hn => exact s.takeNext_keeps hn
  · exact .refl s

theorem State.endHoldLast_keeps (h : s.ctl.live = some x) : s.Keeps (s.endHoldLast x) :=
  (s.moveLive_keeps h (fun h => h.steps.dropB) fun h => h.copy.frames.1).raise

theorem State.endAction_keeps (h : s.ctl.live = some x) : s.Keeps (s.endAction x) := by
  unfold State.endAction
  split
  · exact State.endHoldLast_keeps h
  · exact s.moveLive_keeps h (fun _ => .resolvePair) fun h => h.copy.frames.1
  · unfold State.endAdvance
    split
    · exact State.advanceTake_keeps
    · exact State.endHoldLast_keeps h

theorem State.stepBoundary_keeps (h : s.ctl.live = some x) {a : SlotRef} (ha : x.stepA = some a) :
    s.Keeps (s.stepBoundary x a) := by
  unfold State.stepBoundary
  split
  · next a' ha' =>
    refine s.moveLive_keeps h (fun hx => ?_) fun h => h.copy.frames.1
    have hlo := (hx.steps.hours a (by simp [ha])).1
    exact (StepsWithin.resolve ha').after.mono (by omega)
  · exact State.endAction_keeps h

theorem State.endedCheck_keeps (h : s.ctl.live = some x) {a : SlotRef} (ha : x.stepA = some a) :
    s.Keeps (s.endedCheck x a) := by
  unfold State.endedCheck
  split
  · next b hb => exact s.moveLive_keeps h (fun hx => hb ▸ (ha ▸ hx.steps).after) fun h => h.phase
  · split
    · exact State.advanceTake_keeps
    · split
      · next i hi =>
        have hour : s.field.hourOf i = a.hour := by
          have := List.find?_some hi
          simp only [Bool.and_eq_true, decide_eq_true_eq] at this
          exact this.1
        exact s.moveLive_keeps h (fun hx => (ha ▸ hx.steps).republish hour) fun h => h.phase
      · exact .refl s

theorem State.resolveStarved_keeps (h : s.ctl.live = some x) : s.Keeps (s.resolveStarved x) := by
  unfold State.resolveStarved
  split
  · next a b hab =>
    have steps : StepsWithin x.copy.first x.copy.last (some a) b := by
      have := StepsWithin.resolvePair (f := s.field) (lo := x.copy.first) (hi := x.copy.last)
      rwa [hab] at this
    exact s.moveLive_keeps h (fun _ => steps) fun h => h.copy.frames.1
  · exact .refl s

theorem State.advanceLive_keeps (h : s.ctl.live = some x) : s.Keeps (s.advanceLive x) := by
  unfold State.advanceLive
  split
  · exact State.resolveStarved_keeps h
  · next a ha =>
    split
    · exact State.endedCheck_keeps h ha
    · split
      · next hphase =>
        refine (State.Keeps.refl s).withCtl
          (fun hs hb => ⟨hs.contexts hs.next (fun z hz => ?_) hs.stacked, hb⟩) (fun hs => ⟨fun _ => rfl, hs.2⟩) id
        obtain ⟨hsound, hprep⟩ := hs.live x h
        exact Option.some.inj hz ▸ ⟨hsound.move hsound.steps hphase, hprep⟩
      · exact State.stepBoundary_keeps h ha

variable (s)

theorem State.advance_keeps : s.Keeps s.advance := by
  unfold State.advance
  split
  · next x hx =>
    split
    · exact .refl s
    · exact State.advanceLive_keeps hx
  · exact .refl s

theorem State.sequence_keeps : s.Keeps s.sequence := by
  unfold State.sequence
  split
  · exact s.advance_keeps.trans (State.sendSnapshot_keeps _)
  · exact .refl s

end Sequencer

/-! ### The Output Stage -/

theorem State.refillIfDormant_keeps : s.Keeps s.refillIfDormant := by
  unfold State.refillIfDormant
  split
  · exact .of_still rfl
  · exact .refl s

theorem State.outputFrame_keeps : s.Keeps s.outputFrame := by
  unfold State.outputFrame
  split
  · exact .of_still rfl
  · exact .of_still rfl

theorem State.enterSafe_keeps : s.Keeps s.enterSafe :=
  State.Keeps.trans ((State.Keeps.refl s).withOutput.raise) (.of_still rfl)

theorem State.leaveSafe_keeps : s.Keeps s.leaveSafe :=
  ((State.Keeps.refl s).withOutput.raise).trans (State.refillIfDormant_keeps _)

theorem State.safeChanged_keeps (b : Bool) : s.Keeps (s.safeChanged b) := by
  unfold State.safeChanged
  split
  · split
    · exact .refl s
    · exact s.enterSafe_keeps
  · split
    · exact s.leaveSafe_keeps
    · exact .refl s

theorem safeSet_keeps (n : Nat) (c : Option Nat) : s.Keeps (safeSet n c s).1 := by
  unfold safeSet
  split
  · exact .refl s
  · split
    · exact .refl s
    · exact (State.Keeps.refl s).withOutput.trans (State.safeChanged_keeps _ _)

theorem State.setLineup_keeps (on : Bool) : s.Keeps (s.setLineup on) := by
  unfold State.setLineup
  split
  · exact .refl s
  · exact (State.Keeps.refl s).withOutput.trans (State.refillIfDormant_keeps _)

theorem lineup_keeps (n : Nat) : s.Keeps (lineup n s).1 := by
  unfold lineup
  split
  · exact .refl s
  · split
    · exact .refl s
    · exact s.setLineup_keeps _

theorem State.resetOutput_keeps : s.Keeps s.resetOutput :=
  (State.Keeps.refl s).withOutput.trans ((State.safeChanged_keeps _ _).trans (State.setLineup_keeps _ _))

/-! ### Frame Timing and the modes -/

section Chains

variable {s} {t : State}

theorem State.Keeps.frameStart (h : s.Keeps t) {n : Nat} : s.Keeps (t.frameStart n) :=
  h.withTiming.trans ((State.sequence_keeps _).trans (State.outputFrame_keeps _))

theorem State.Keeps.makeOverdue (h : s.Keeps t) : s.Keeps t.makeOverdue := by
  unfold State.makeOverdue
  split
  · split
    · exact h.withTiming.frameStart
    · exact h
  · exact h

end Chains

theorem State.internalFrameStart_keeps (d : Nat) : s.Keeps (s.internalFrameStart d) := by
  have clock := (State.Keeps.refl s).at (n := d)
  unfold State.internalFrameStart
  dsimp only
  split
  · split
    · exact clock.withTiming.raise.frameStart
    · exact clock.withTiming.frameStart
  · exact clock.withTiming.frameStart

theorem State.lockingPulse_keeps (d : Nat) : s.Keeps (s.lockingPulse d) := by
  unfold State.lockingPulse
  dsimp only
  split
  · exact (State.Keeps.refl s).withTiming.raise.withTiming
  · exact (State.Keeps.refl s).withTiming.raise.frameStart

theorem State.acquiringPulse_keeps (d : Nat) : s.Keeps (s.acquiringPulse d) := by
  unfold State.acquiringPulse
  dsimp only
  split
  · split
    · exact s.lockingPulse_keeps d
    · exact (State.Keeps.refl s).withTiming
  · exact (State.Keeps.refl s).withTiming

theorem State.lockedPulse_keeps (d : Nat) : s.Keeps (s.lockedPulse d) := by
  unfold State.lockedPulse
  dsimp only
  split
  · exact (State.Keeps.refl s).withTiming
  · exact (State.Keeps.refl s).withTiming.frameStart

theorem State.pulse_keeps : s.Keeps s.pulse := by
  have first : s.Keeps s.firstPulse := (State.Keeps.refl s).withTiming
  unfold State.pulse
  dsimp only
  split
  · exact first
  · split
    · exact s.acquiringPulse_keeps _
    · exact first
  · split
    · exact s.lockedPulse_keeps _
    · exact (State.Keeps.refl s).withTiming.frameStart
  · exact first.withTiming.makeOverdue

theorem State.resetTiming_keeps : s.Keeps s.resetTiming := by
  unfold State.resetTiming
  dsimp only
  split
  · exact (State.Keeps.refl s).withTiming
  · split
    · exact (State.Keeps.refl s).withTiming.makeOverdue
    · exact (State.Keeps.refl s).withTiming

theorem State.nextFrameStart_keeps (n : Nat) : s.Keeps ((s.nextFrameStart n).getD s) := by
  unfold State.nextFrameStart
  split
  · split
    · split
      · exact .refl s
      · exact (State.Keeps.refl s).at.trans (State.pulse_keeps _)
    · exact .refl s
  · cases s.timing.nextDue with
    | none => exact .refl s
    | some d => exact s.internalFrameStart_keeps d

theorem Governor.initial_bounded : Governor.initial.Bounded :=
  ⟨Nat.zero_le _, ⟨Nat.zero_le _, Nat.zero_le _⟩, Nat.zero_le _⟩

theorem playoutReset_keeps : s.Keeps (playoutReset s).1 := by
  have reset : s.Keeps ((s.resetPort .pp).withComposer { s.composer with
      governor := Governor.initial, late := 0, lateFrames := 0, dropped := 0 }) :=
    State.Keeps.withComposer (t := s.resetPort .pp) ((State.Keeps.refl s).modifyPort id)
      fun _ => Governor.initial_bounded
  exact reset.trans ((State.resetOutput_keeps _).trans (State.resetTiming_keeps _))

theorem State.setReference_keeps (r : Rate) : s.Keeps (s.setReference r) := by
  unfold State.setReference
  dsimp only
  split
  · exact (State.Keeps.refl s).withTiming
  · exact (State.Keeps.refl s).withTiming.makeOverdue

theorem referenceSet_keeps (c : Nat) : s.Keeps (referenceSet c s).1 := by
  unfold referenceSet
  split
  · exact .refl s
  · exact s.setReference_keeps _

theorem State.leaveDormant_keeps (m : Mode) : s.Keeps (s.leaveDormant m) :=
  ((State.Keeps.refl s).withTiming.withOutput.trans (State.takeHead_keeps _)).trans (.of_still rfl)

theorem outputMode_keeps (n : Nat) : s.Keeps (outputMode n s).1 := by
  unfold outputMode
  split
  · exact .refl s
  · dsimp only
    unfold State.changeMode
    split
    · exact .refl s
    · split
      · exact .of_still rfl
      · split
        · exact s.leaveDormant_keeps _
        · exact .of_still rfl

theorem State.wakingPulse_keeps : s.Keeps s.wakingPulse :=
  (State.Keeps.refl s).withTiming.trans (State.leaveDormant_keeps _ _)

end Sys2Proof.Machine
end

section
/-! PROOFS. Every request, event and step keeps the rules of the show and the capacities (O18). -/

namespace Sys2Proof.Machine

variable (s : State)

/-! ### Requests -/

theorem areaMapBegin_keeps (c n : Nat) : s.Keeps (areaMapBegin c n s).1 := by
  unfold areaMapBegin
  split
  · exact .refl s
  · split
    · exact .refl s
    · exact .of_still rfl

theorem areaMapRow_keeps (r c n : Nat) (es : List MapEntry) : s.Keeps (areaMapRow r c n es s).1 := by
  unfold areaMapRow
  split
  · exact .refl s
  · split
    · exact .refl s
    · split
      · exact .refl s
      · exact .of_still rfl

theorem bandsWrite_keeps (f : BandFields) : s.Keeps (bandsWrite f s).1 := by
  unfold bandsWrite
  split
  · exact .refl s
  · exact .of_still rfl

theorem noticeMask_keeps (p : Port) (f : MaskFields) : s.Keeps (noticeMask p f s).1 := by
  unfold noticeMask
  split
  · exact .refl s
  · exact .of_capacity rfl id (fun h => h.set (h p)) id

theorem handle_keeps (p : Port) (r : Request) : s.Keeps (handle p r s).1 := by
  cases r with
  | gridDefine c n => exact gridDefine_keeps s c n
  | stepDrop h => exact stepDrop_keeps s h
  | stepOpen h c ws => exact stepOpen_keeps s h c ws
  | cellBlock r c n vs => exact cellBlock_keeps s r c n vs
  | stepClose => exact stepClose_keeps s
  | stepCancel => exact stepCancel_keeps s
  | feedSettings x => exact (State.Keeps.refl s).withFeed.trans (State.restartFeed_keeps _)
  | ingestReset => exact ingestReset_keeps s
  | coastBegin => exact coastBegin_keeps s
  | coastLineNew k c vs => exact coastLineNew_keeps s k c vs
  | coastLineContinue vs => exact coastLineContinue_keeps s vs
  | coastEnd => exact coastEnd_keeps s
  | areaMapBegin c n => exact areaMapBegin_keeps s c n
  | areaMapRow r c n es => exact areaMapRow_keeps s r c n es
  | bandsWrite f => exact bandsWrite_keeps s f
  | pageWrite n f => exact pageWrite_keeps s n f
  | pageLayers m l => exact pageLayers_keeps s m l
  | cue n h => exact cue_keeps s n h
  | cueClear => exact cueClear_keeps s
  | cueWithdraw => exact cueWithdraw_keeps s
  | insert n => exact insert_keeps s n
  | insertEnd => exact insertEnd_keeps s
  | hold => exact hold_keeps s
  | resume => exact resume_keeps s
  | jump h => exact jump_keeps s h
  | deskReset => exact deskReset_keeps s
  | take => exact take_keeps s
  | takeForce => exact takeForce_keeps s
  | clear => exact clear_keeps s
  | referenceSet c => exact referenceSet_keeps s c
  | safeSet f c => exact safeSet_keeps s f c
  | lineup f => exact lineup_keeps s f
  | outputMode m => exact outputMode_keeps s m
  | playoutReset => exact playoutReset_keeps s
  | noticeMask f => exact noticeMask_keeps s p f
  | statusRead | noticeRead => exact .of_capacity rfl id (fun h => h.set (h p)) id
  | pageRead n => exact (pageRead_fst s n).symm ▸ .refl s
  | cellRead r c n => exact (cellRead_fst s r c n).symm ▸ .refl s
  | feedRead | bandsRead | cueRead | timingRead | areaRead | timelineRead => exact .refl s

theorem State.Keeps.respond {s : State} {r : State × Answer} (h : s.Keeps r.1) {p : Port} :
    s.Keeps (respond p r) := h.modifyPort id

/-! ### The link ports (R165, R166) -/

theorem takeFrame_keeps (p : Port) (f : LinkFrame) : s.Keeps (takeFrame p f s).1 := by
  unfold takeFrame
  split
  · exact .refl s
  · split
    · split
      · exact .refl s
      · exact handle_keeps s p _
    · exact .refl s

theorem State.serve_keeps (p : Port) (f : LinkFrame) : s.Keeps (s.serve p f) := by
  unfold State.serve
  dsimp only
  exact (takeFrame_keeps s p f).respond.modifyPort id

theorem State.badCheck_keeps (p : Port) : s.Keeps (s.badCheck p) := by
  unfold State.badCheck
  dsimp only
  split
  · exact ((State.Keeps.refl s).modifyPort id).trans (State.erroredRecord_keeps _)
  · exact (State.Keeps.refl s).modifyPort id

theorem State.goodIngestFrame_buffer (p : Port) : (s.goodIngestFrame.ports.get p).buffer = (s.ports.get p).buffer := by
  unfold State.goodIngestFrame
  dsimp only
  split
  · simp [PortState.raise]
  · rfl

/-- A frame is buffered only where there is room for it. -/
theorem State.takeOrBuffer_keeps {p : Port} (h : (s.ports.get p).buffer.length < 2) (f : LinkFrame) :
    s.Keeps (s.takeOrBuffer p f) := by
  unfold State.takeOrBuffer
  split
  · exact s.serve_keeps p f
  · exact (State.Keeps.refl s).modifyPort fun _ => by rw [List.length_append]; exact h

theorem State.goodFrame_keeps {p : Port} (h : (s.ports.get p).buffer.length < 2) (f : LinkFrame) :
    s.Keeps (s.goodFrame p f) := by
  rw [State.goodFrame_eq]
  split
  · exact s.goodIngestFrame_keeps.trans (State.takeOrBuffer_keeps _ (by rwa [State.goodIngestFrame_buffer]) f)
  · exact s.takeOrBuffer_keeps h f

theorem State.receive_keeps (p : Port) (f : LinkFrame) : s.Keeps (s.receive p f) := by
  have hunt : s.Keeps (s.modifyPort p fun x => { x with receiver := .hunting }) := (State.Keeps.refl s).modifyPort id
  unfold State.receive
  dsimp only
  split
  · exact hunt.trans (State.badCheck_keeps _ p)
  · split
    · exact hunt.modifyPort id
    · next hroom =>
      split
      · exact hunt.trans (State.goodFrame_keeps _ (Nat.lt_of_not_le hroom) f)
      · exact hunt.trans (State.badCheck_keeps _ p)

theorem State.endReply_keeps (p : Port) : s.Keeps (s.endReply p) := by
  unfold State.endReply
  dsimp only
  split
  · exact .refl s
  · exact (State.Keeps.refl s).modifyPort id
  · next f rest _ hbuffer =>
    refine State.Keeps.trans ((State.Keeps.refl s).modifyPort fun h => ?_) (State.serve_keeps _ p f)
    rw [hbuffer, List.length_cons] at h
    exact Nat.le_of_succ_le h

theorem State.abandonFrame_keeps (p : Port) (os : List Octet) : s.Keeps (s.abandonFrame p os) := by
  unfold State.abandonFrame
  split
  · exact ((State.Keeps.refl s).modifyPort id).trans (State.badCheck_keeps _ p)
  · exact .refl s

/-! ### Commands and steps -/

/-- A restart leaves no page, no context, no cue and no frame waiting (R186). -/
theorem State.restart_keeps (c : ResetCause) : s.Keeps (s.restart c) := by
  have page (i : PageId) : ShowController.initial.page i = none := by simp [ShowController.page, ShowController.initial]
  have shows : ShowController.initial.Sound none CoastStore.initial := by
    refine ⟨fun i p hp => absurd ((page i).symm.trans hp) (by simp), ?_, ?_, ?_, ?_⟩
    all_goals simp [ShowController.initial]
  refine ⟨fun _ => (State.showSound_iff _).2 ⟨shows, fun _ => rfl⟩,
    fun _ => (State.stackSound_iff _).2 (ShowController.stackSound_nil rfl),
    fun _ => (State.bounded_iff _).2 ⟨Nat.zero_le _, ⟨Nat.zero_le _, Nat.zero_le _⟩, fun p => ?_,
      Governor.initial_bounded⟩⟩
  cases p <;> exact Nat.zero_le _

theorem unlessFrozen_keeps {s t u : State} (h : s.Keeps t) (hu : unlessFrozen s t = .next u) : s.Keeps u := by
  rcases unlessFrozen_next hu with rfl | rfl
  · exact .refl u
  · exact h

theorem exec_keeps_show {c : Instr} {t : State} (h : exec c s = .next t) : s.Keeps t := by
  have clock (n : Nat) : s.Keeps (s.at n) := (State.Keeps.refl s).at
  cases hr : c.request? with
  | some r =>
    obtain ⟨p, n, hp⟩ := exec_request s hr
    rw [hp] at h
    exact unlessFrozen_keeps ((clock n).trans (handle_keeps _ p r).respond) h
  | none =>
    cases c with
    | powerOn n =>
      cases h
      split
      · exact .of_still rfl
      · exact (clock n).trans (State.restart_keeps _ _)
    | resetLineRelease n =>
      cases h
      split
      · exact (clock n).trans (State.restart_keeps _ _)
      · exact .refl s
    | resetLineAssertion =>
      refine unlessFrozen_keeps ?_ h
      exact .of_capacity rfl id (fun h => h.map fun _ => rfl) id
    | linkFrameReceived p f n => exact unlessFrozen_keeps ((clock n).trans (State.receive_keeps _ p f)) h
    | replySent p n => exact unlessFrozen_keeps ((clock n).trans (State.endReply_keeps _ p)) h
    | framingError p len =>
      refine unlessFrozen_keeps ?_ h
      split
      · exact s.abandonFrame_keeps p _
      · exact .refl s
    | frameGapTimeout p => exact unlessFrozen_keeps (s.abandonFrame_keeps p _) h
    | startOctet p => exact unlessFrozen_keeps ((State.Keeps.refl s).modifyPort id) h
    | drainCompletion =>
      refine unlessFrozen_keeps ?_ h
      split
      · exact s.completeDrain_keeps _
      · exact .refl s
    | windowEnd =>
      refine unlessFrozen_keeps ?_ h
      split
      · exact (s.passSeconds_keeps _).trans (State.endWindow_keeps _)
      · exact .refl s
    | staleTimerExpiry =>
      refine unlessFrozen_keeps ?_ h
      split
      · exact (s.passSeconds_keeps _).trans (State.expireStale_keeps _)
      · exact .refl s
    | windowCutCompletion place => exact unlessFrozen_keeps (s.completeCut_keeps place) h
    | frefPulse n =>
      refine unlessFrozen_keeps ?_ h
      split
      · exact (clock n).trans (State.wakingPulse_keeps _)
      · exact (clock n).trans (State.pulse_keeps _)
    | internalFrameStart =>
      refine unlessFrozen_keeps ?_ h
      split
      · exact s.internalFrameStart_keeps _
      · exact .refl s
    | acquiringSilenceExpiry =>
      refine unlessFrozen_keeps ?_ h
      split
      · exact (clock _).withTiming.raise
      · exact .refl s
    | refLost =>
      refine unlessFrozen_keeps ?_ h
      split
      · exact (clock _).withTiming.raise.frameStart
      · exact .refl s
    | holdoverEnd =>
      refine unlessFrozen_keeps ?_ h
      split
      · split
        · exact s.internalFrameStart_keeps _
        · exact .refl s
      · exact .refl s
    | lateFrames n | detailRecovered n =>
      refine unlessFrozen_keeps ?_ h
      split
      · exact s.nextFrameStart_keeps n
      · exact .refl s
    | compositionCompletion =>
      refine unlessFrozen_keeps ?_ h
      split
      · exact s.completeComposition_keeps _
      · exact .refl s
    | safeLineChange b =>
      cases h
      split
      · exact .of_still rfl
      · exact (State.Keeps.of_still (s := s) (t := { s with safeLine := b }) rfl).trans (State.safeChanged_keeps _ _)
    | _ => cases hr

theorem step_keeps_show {t : State} (h : step s = .next t) : s.Keeps t := by
  cases hp : s.pending with
  | nil =>
    rw [step_nil s hp] at h
    cases h
    exact s.tick_keeps
  | cons c rest =>
    rw [step_cons s hp] at h
    exact (State.Keeps.of_still (s := s) (t := s.withPending rest) rfl).trans (exec_keeps_show _ h)

/-- Settles O18. -/
theorem showStaysSound : Obligations.ShowStaysSound := fun s _ h =>
  have keeps := step_keeps_show s h
  ⟨keeps.shows, keeps.stack, keeps.bounded⟩

end Sys2Proof.Machine
end

section
/-! PROOFS. The Page Table: PAGE_WRITE and PAGE_LAYERS (O39), PAGE_READ (O11), and a window clamped to the grid
(O40). -/

namespace Sys2Proof.Machine

/-! ### PAGE_READ (R95) -/

theorem pageRecordFields_eq (r : Page) :
    pageRecordFields r =
      [.num r.originCol, .num r.originRow, .num r.width, .num r.height, .num r.stride,
        .octet (layerOctet r.layers).toNat, .num r.first, .num r.last, .num r.framesPerStep,
        .octet (endActionCode r.endAction)]
      ++ match r.start with
        | none => [.octet 0]
        | some k => [.octet 1, .num k] := by
  unfold pageRecordFields
  cases r.start <;> rfl

theorem pageRead_noPage {n : Nat} (h : 31 < n) (s : State) : pageRead n s = (s, refuse .noPage) := by
  rw [pageRead, pageIdOf_none h]

theorem pageRead_undefined {i : PageId} {s : State} (h : s.ctl.page i = none) :
    pageRead i.val s = (s, { outcome := .done, fields := [.num i.val, .octet 0] }) := by
  unfold pageRead
  rw [pageIdOf_some]
  simp only [h]
  rfl

theorem pageRead_defined {i : PageId} {s : State} {r : Page} (h : s.ctl.page i = some r) :
    pageRead i.val s = (s, { outcome := .done, fields := [.num i.val, .octet 1] ++ pageRecordFields r }) := by
  unfold pageRead
  rw [pageIdOf_some]
  simp only [h]
  rfl

/-- Settles O11. -/
theorem pageReadReports : Obligations.PageReadReports := by
  intro n s hr
  refine ⟨fun h => unlessFrozen_answered hr (pageRead_noPage h s), fun h => ⟨fun hp => ?_, fun r hp => ?_⟩⟩
  · exact unlessFrozen_answered hr (pageRead_undefined hp)
  · exact unlessFrozen_answered hr ((pageRead_defined hp).trans (by rw [pageRecordFields_eq r]; rfl))

/-! ### PAGE_WRITE (R93) -/

theorem endActionOfCode_none {c : Nat} (h : 2 < c) : endActionOfCode c = none := by
  match c, h with
  | n + 3, _ => rfl

theorem pageAdjusted_eq_false_iff {f : PageFields} {p : Page} :
    pageAdjusted f p = false ↔ p.originCol = f.originCol ∧ p.originRow = f.originRow ∧ p.width = f.width
      ∧ p.height = f.height ∧ p.stride = f.stride ∧ p.first = f.first ∧ p.last = f.last
      ∧ p.framesPerStep = f.framesPerStep ∧ p.start = f.start := by
  simp [pageAdjusted, and_assoc]

theorem pageWrite_noPage {n : Nat} (h : 31 < n) (f : PageFields) (s : State) :
    pageWrite n f s = (s, refuse .noPage) := by
  rw [pageWrite, pageIdOf_none h]

theorem pageWrite_badLength {f : PageFields} (h : 2 < f.endCode) (i : PageId) (s : State) :
    pageWrite i.val f s = (s, refuse .badLength) := by
  rw [pageWrite, pageIdOf_some, endActionOfCode_none h]

theorem pageWrite_taken {f : PageFields} {e : EndAction} (h : endActionOfCode f.endCode = some e) (i : PageId)
    (s : State) :
    pageWrite i.val f s = ({ s with ctl := { s.ctl with pages := s.ctl.pages.set i (some (adjustPage f e)) } },
      { outcome := doneOrClamped (pageAdjusted f (adjustPage f e)),
        fields := .num i.val :: pageRecordFields (adjustPage f e) }) := by
  rw [pageWrite, pageIdOf_some, h]
  rfl

theorem doneOrClamped_eq_done_iff {b : Bool} : doneOrClamped b = .done ↔ b = false := by
  cases b <;> simp [doneOrClamped]

/-! ### PAGE_LAYERS (R94) -/

theorem ShowController.page_setLayers (c : ShowController) (l : LayerSet) (i j : PageId) :
    (c.setLayers l i).page j = if i = j then (c.page j).map fun p => { p with layers := l } else c.page j := by
  unfold ShowController.setLayers
  rw [ShowController.page_set]
  by_cases h : j = i
  · rw [if_pos h, if_pos h.symm, h]
  · rw [if_neg h, if_neg (Ne.symm h)]

/-- A page named twice has the layer set replaced twice, to the same effect. -/
theorem ShowController.page_foldl_setLayers (l : LayerSet) (is : List PageId) (c : ShowController) (j : PageId) :
    (is.foldl (fun y i => y.setLayers l i) c).page j
      = if j ∈ is then (c.page j).map fun p => { p with layers := l } else c.page j := by
  induction is generalizing c with
  | nil => rfl
  | cons i is ih =>
    rw [List.foldl_cons, ih, ShowController.page_setLayers]
    by_cases hij : i = j
    · cases c.page j <;> simp [hij]
    · simp [hij, Ne.symm hij]

theorem mem_maskedPages {mask : BitVec 32} {i : PageId} : i ∈ maskedPages mask ↔ mask.getLsbD i = true := by
  simp [maskedPages]

/-- Settles O39. -/
theorem pagesAreWritten : Obligations.PagesAreWritten := by
  constructor
  · intro n f s hr run
    refine ⟨fun h => unlessFrozen_answered hr (pageWrite_noPage h f s), fun h => ⟨fun hc => ?_, fun e he => ?_⟩⟩
    · exact unlessFrozen_answered hr (pageWrite_badLength hc ⟨n, h⟩ s)
    · intro first last p same
      refine ⟨adjustPage_sound f e, doneOrClamped (pageAdjusted f (adjustPage f e)), (doneOrClamped_cases _).1, ?_,
        unlessFrozen_answered hr (pageWrite_taken he ⟨n, h⟩ s)⟩
      rw [doneOrClamped_eq_done_iff, pageAdjusted_eq_false_iff]
      exact Iff.rfl
  · intro mask l s hr named changed
    obtain ⟨pages, hpages⟩ := foldl_setLayers_ctl l (maskedPages mask) s.ctl
    refine ⟨pages, unlessFrozen_answered hr ?_, fun i => ?_⟩
    · rw [pageLayers, hpages]
      rfl
    · have hread := ShowController.page_foldl_setLayers l (maskedPages mask) s.ctl i
      simp only [mem_maskedPages, hpages] at hread
      exact hread

/-! ### The window (R97) -/

theorem Context.reclamp_window (g : Option Grid) (c : CoastStore) (x : Context) :
    (x.reclamp g c).window = clampWindow g x.copy := by
  unfold Context.reclamp
  dsimp only
  split
  · next h => exact h.symm
  · split <;> rfl

/-- Settles O40. -/
theorem windowClampedToGrid : Obligations.WindowClampedToGrid := by
  refine ⟨fun p => rfl, fun g p => ?_, fun s i p o k => rfl, Context.reclamp_window⟩
  intro w
  refine ⟨rfl, rfl, rfl, rfl, ?_, ?_, ?_, ?_, ?_⟩ <;> simp only [w, clampWindow] <;> omega

end Sys2Proof.Machine
end

section
/-! PROOFS. The cues and the flag HOLD: CUE and the build of NEXT (O43), CUE_WITHDRAW (O44), CUE_CLEAR (O45), HOLD,
RESUME and DESK_RESET (O46). -/

namespace Sys2Proof.Machine

variable (s : State)

/-! ### The build of NEXT (R103, R104) -/

/-- There is nothing to build where NEXT stands or nothing is queued. -/
theorem State.buildNext_self (h : s.ctl.next ≠ none ∨ s.ctl.queue = []) : s.buildNext = s := by
  unfold State.buildNext
  split
  · rfl
  · next hnext =>
    have hqueue := h.resolve_left fun hne => hnext (Option.isSome_iff_ne_none.2 hne)
    rw [hqueue]

/-- A cut begins with the build exactly when the coast store is VALID (R56). -/
theorem State.buildContext_cutting (i : PageId) (p : Page) (o : Origin) (k : Option Nat) :
    (s.buildContext i p o k).2.cutting = decide (s.coast.state = .valid) := by
  unfold Context.cutting
  change decide ((requestedCut s.coast).cut = .cutting) = _
  unfold requestedCut
  cases s.coast.state <;> rfl

theorem State.buildNext_head {e : CueEntry} {rest : List CueEntry} {p : Page} (hnext : s.ctl.next = none)
    (hq : s.ctl.queue = e :: rest) (hp : s.ctl.page e.page = some p) :
    s.buildNext =
      State.raiseIf (State.raiseIf
        { s with
          field := (s.buildContext e.page p .cued e.start).1
          ctl := { s.ctl with
            queue := rest
            next := some { (s.buildContext e.page p .cued e.start).2 with
              prep := if s.coast.state = .valid then some .preparing else some .ready } } }
        (!decide (s.coast.state = .valid)) .nextReady) (decide (rest = [])) .cueEmpty := by
  rw [s.buildNext_built hnext hq hp, State.buildContext_cutting]
  have hempty : rest.isEmpty = decide (rest = []) := by cases rest <;> rfl
  have hprep : some (if decide (s.coast.state = .valid) then Prep.preparing else .ready)
      = if s.coast.state = .valid then some .preparing else some .ready := by
    rw [apply_ite some]
    simp
  rw [hempty, hprep]
  rfl

variable {s} in
/-- The entry NEXT is built from leaves the queue. -/
theorem State.buildNext_takes {e : CueEntry} {rest : List CueEntry} {p : Page} (hnext : s.ctl.next = none)
    (hq : s.ctl.queue = e :: rest) (hp : s.ctl.page e.page = some p) : s.buildNext.ctl.queue = rest := by
  rw [State.buildNext_head _ hnext hq hp, State.raiseIf_ctl, State.raiseIf_ctl]

/-! ### CUE (R101) -/

theorem cue_noPage {n : Nat} (h : ∀ i : PageId, i.val = n → s.ctl.page i = none) (k : Option Nat) :
    cue n k s = (s, refuse .noPage) := by
  rw [cue, ShowController.definedPage_none h]

section CueDefined

variable {s} {i : PageId} {p : Page} {k : Option Nat}

theorem cue_defined (hp : s.ctl.page i = some p) :
    cue i.val k s =
      if k.any fun h => decide (240 < h) then (s, refuse .badHour)
      else if 8 ≤ s.ctl.queue.length then (s, refuse .queueFull)
      else
        let t := State.buildNext { s with ctl := { s.ctl with queue := s.ctl.queue ++ [{ page := i, start := k }] } }
        (t, { outcome := .done, fields := numField t.ctl.queue.length ++ flagField s.ctl.next.isNone }) := by
  rw [cue, ShowController.definedPage_some_iff.2 ⟨rfl, hp⟩]
  rfl

theorem cue_badHour (hp : s.ctl.page i = some p) (hk : ∃ h, k = some h ∧ 240 < h) :
    cue i.val k s = (s, refuse .badHour) := by
  obtain ⟨h, rfl, hlt⟩ := hk
  rw [cue_defined hp, if_pos (by simpa using hlt)]

theorem cue_goodHour (hp : s.ctl.page i = some p) (hk : ∀ h, k = some h → h ≤ 240) :
    cue i.val k s =
      if 8 ≤ s.ctl.queue.length then (s, refuse .queueFull)
      else
        let t := State.buildNext { s with ctl := { s.ctl with queue := s.ctl.queue ++ [{ page := i, start := k }] } }
        (t, { outcome := .done, fields := numField t.ctl.queue.length ++ flagField s.ctl.next.isNone }) := by
  rw [cue_defined hp, if_neg (by simpa [Option.any_eq_true] using hk)]

/-- With NEXT standing, the entry only joins the tail. -/
theorem cue_queued {x : Context} (hp : s.ctl.page i = some p) (hk : ∀ h, k = some h → h ≤ 240)
    (hroom : s.ctl.queue.length < 8) (hx : s.ctl.next = some x) :
    cue i.val k s = ({ s with ctl := { s.ctl with queue := s.ctl.queue ++ [{ page := i, start := k }] } },
      { outcome := .done, fields := [.num (s.ctl.queue.length + 1 : Nat), .octet 0] }) := by
  rw [cue_goodHour hp hk, if_neg (by omega), State.buildNext_self _ (.inl (by simp [hx]))]
  simp [hx, field_forms]

/-- With nothing cued, NEXT is built from the entry, which leaves the queue again. -/
theorem cue_built (hp : s.ctl.page i = some p) (hk : ∀ h, k = some h → h ≤ 240) (hx : s.ctl.next = none)
    (hq : s.ctl.queue = []) :
    cue i.val k s = (State.buildNext { s with ctl := { s.ctl with queue := [{ page := i, start := k }] } },
      { outcome := .done, fields := [.num 0, .octet 1] }) := by
  rw [cue_goodHour hp hk, if_neg (by simp [hq])]
  have hbuilt := State.buildNext_takes
    (s := { s with ctl := { s.ctl with queue := [{ page := i, start := k }] } }) hx rfl hp
  rw [hq, List.nil_append]
  dsimp only at hbuilt ⊢
  rw [hbuilt, hx]
  rfl

end CueDefined

/-- Settles O43. -/
theorem cuesBuildNext : Obligations.CuesBuildNext := by
  refine ⟨fun n k s hr => ⟨fun hn => unlessFrozen_answered hr (cue_noPage s hn k), ?_⟩,
    fun s => ⟨s.buildNext_self, fun e rest p hnext hq hp => s.buildNext_head hnext hq hp⟩⟩
  rintro i p rfl hp
  refine ⟨fun hk => unlessFrozen_answered hr (cue_badHour hp hk), fun hk => ⟨fun hfull => ?_, fun hroom => ?_⟩⟩
  · exact unlessFrozen_answered hr ((cue_goodHour hp hk).trans (if_pos hfull))
  · exact ⟨fun x hx => unlessFrozen_answered hr (cue_queued hp hk hroom hx),
      fun hx hq => unlessFrozen_answered hr (cue_built hp hk hx hq)⟩

/-! ### CUE_WITHDRAW, CUE_CLEAR (R105, R102) -/

theorem cueWithdraw_none (h : s.ctl.next = none) : cueWithdraw s = (s, refuse .nothingCued) := by
  rw [cueWithdraw, h]

theorem cueWithdraw_some {x : Context} (h : s.ctl.next = some x) :
    cueWithdraw s =
      let t := State.buildNext { s with field := s.field.releaseAll x.refs, ctl := { s.ctl with next := none } }
      (t, { outcome := .done, fields := contextPageField t.ctl.next }) := by
  rw [cueWithdraw, h]
  rfl

/-- Settles O44. -/
theorem cueWithdrawReleasesNext : Obligations.CueWithdrawReleasesNext := by
  intro s hr
  refine ⟨fun h => unlessFrozen_answered hr (cueWithdraw_none s h), fun x hx => ?_⟩
  intro t
  refine unlessFrozen_answered hr ((cueWithdraw_some s hx).trans (congrArg (fun l => (t, Answer.mk .done l)) ?_))
  cases t.ctl.next <;> rfl

/-- Settles O45. -/
theorem cueClearEmptiesQueue : Obligations.CueClearEmptiesQueue :=
  fun _ hr => unlessFrozen_answered hr rfl

/-! ### HOLD, RESUME and DESK_RESET (R118, R122) -/

/-- Settles O46. -/
theorem holdResumeDeskReset : Obligations.HoldResumeDeskReset :=
  fun s hr => ⟨unlessFrozen_answered hr rfl, unlessFrozen_answered hr rfl, unlessFrozen_answered hr (deskReset_eq s)⟩

end Sys2Proof.Machine
end

section
/-! PROOFS. What is on air: TAKE, TAKE_FORCE and CLEAR (O47), INSERT and INSERT_END (O48), JUMP (O49). -/

namespace Sys2Proof.Machine

variable {s : State}

/-! ### TAKE, TAKE_FORCE and CLEAR (R107, R109, R110) -/

/-- The state a take leaves, its context coming from NEXT and the references `released` going. -/
def State.taken (s : State) (x : Context) (released : List SlotRef) : State :=
  State.buildNext
    { s with
      field := s.field.releaseAll released
      ctl := { s.ctl with next := none, live := some { x with prep := none }, stack := [], hold := false }
      eval := s.eval.cleared }

/-- With no insert up, a take of NEXT leaves the stack empty as it is. -/
theorem State.takeNext_eq_taken (h : s.ctl.stack = []) (x : Context) :
    s.takeNext x = s.taken x (contextRefs s.ctl.live) := by
  rw [State.takeNext_eq, State.taken, ← h]
  rfl

theorem State.releaseStack_takeNext_eq_taken (s : State) (x : Context) :
    s.releaseStack.takeNext x
      = s.taken x (s.ctl.stack.reverse.flatMap contextRefs ++ contextRefs s.ctl.live) :=
  s.releaseStack_takeNext_eq x

/-- The build of NEXT leaves LIVE to the context taken. -/
theorem State.taken_live (s : State) (x : Context) (released : List SlotRef) :
    (s.taken x released).ctl.live = some { x with prep := none } := by
  obtain ⟨next, queue, hctl, -⟩ := State.buildNext_ctl
    { s with
      field := s.field.releaseAll released
      ctl := { s.ctl with next := none, live := some { x with prep := none }, stack := [], hold := false }
      eval := s.eval.cleared }
  rw [State.taken, hctl]

theorem takeFields_taken (s : State) (x : Context) (released : List SlotRef) :
    takeFields (s.taken x released).ctl
      = [.num (x.page : Nat), .octet (cutStateCode x.coast.cut)] ++ match (s.taken x released).ctl.next with
        | none => [.octet 0]
        | some y => [.octet 1, .num (y.page : Nat)] := by
  rw [takeFields, s.taken_live]
  cases (s.taken x released).ctl.next <;> rfl

theorem take_nothingCued (h : s.ctl.next = none) : take s = (s, refuse .nothingCued) := by
  rw [take, h]

theorem take_insertActive {x : Context} (h : s.ctl.next = some x) (hstack : s.ctl.stack ≠ []) :
    take s = (s, refuse .insertActive) := by
  rw [take, h]
  exact if_pos (by simpa using hstack)

theorem take_taken {x : Context} (h : s.ctl.next = some x) (hstack : s.ctl.stack = []) :
    take s = (s.taken x (contextRefs s.ctl.live),
      { outcome := .done, fields := takeFields (s.taken x (contextRefs s.ctl.live)).ctl }) := by
  rw [take, h, ← State.takeNext_eq_taken hstack]
  exact if_neg (by simp [hstack])

theorem takeForce_nothingCued (h : s.ctl.next = none) : takeForce s = (s, refuse .nothingCued) := by
  rw [takeForce, h]

theorem takeForce_taken {x : Context} (h : s.ctl.next = some x) :
    takeForce s =
      let t := s.taken x (s.ctl.stack.reverse.flatMap contextRefs ++ contextRefs s.ctl.live)
      (t, { outcome := .done, fields := takeFields t.ctl ++ [.num s.ctl.stack.length] }) := by
  rw [takeForce, h, ← State.releaseStack_takeNext_eq_taken]
  rfl

/-- Settles O47. -/
theorem takeAndClear : Obligations.TakeAndClear := by
  refine ⟨fun s hr => ?_, fun s hr => ?_⟩
  · intro taken reply
    refine ⟨fun h => ⟨unlessFrozen_answered hr (take_nothingCued h),
        unlessFrozen_answered hr (takeForce_nothingCued h)⟩,
      fun x hx => ⟨fun hstack => unlessFrozen_answered hr (take_insertActive hx hstack), fun hstack => ?_, ?_⟩⟩
    · exact unlessFrozen_answered hr ((take_taken hx hstack).trans (by rw [takeFields_taken]; rfl))
    · exact unlessFrozen_answered hr ((takeForce_taken hx).trans (by dsimp only; rw [takeFields_taken]; rfl))
  · intro t
    refine ⟨unlessFrozen_answered hr ((clear_eq s).trans ?_), rfl⟩
    rw [← List.reduceOption_length_eq, ← List.length_append]
    rfl

/-! ### INSERT and INSERT_END (R113, R115) -/

theorem insert_stackFull (h : 2 ≤ s.ctl.stack.length) (n : Nat) : insert n s = (s, refuse .stackFull) :=
  if_pos h

theorem insert_noPage {n : Nat} (hroom : s.ctl.stack.length < 2) (h : ∀ i : PageId, i.val = n → s.ctl.page i = none) :
    insert n s = (s, refuse .noPage) := by
  rw [insert, if_neg (by omega), ShowController.definedPage_none h]

theorem insert_taken {i : PageId} {p : Page} (hroom : s.ctl.stack.length < 2) (h : s.ctl.page i = some p) :
    insert i.val s =
      ({ s with
          field := (s.buildContext i p .insert none).1
          ctl := { s.ctl with
            stack := s.ctl.stack ++ [s.ctl.live]
            live := some (s.buildContext i p .insert none).2 }
          eval := s.eval.cleared },
        { outcome := .done, fields := [.num i.val, .num (s.ctl.stack.length + 1 : Nat)] }) := by
  rw [insert, if_neg (by omega), ShowController.definedPage_some_iff.2 ⟨rfl, h⟩,
    ← show (s.ctl.stack ++ [s.ctl.live]).length = s.ctl.stack.length + 1 from List.length_append]
  rfl

theorem insertEnd_stackEmpty (h : s.ctl.stack = []) : insertEnd s = (s, refuse .stackEmpty) := by
  rw [insertEnd, h]
  rfl

theorem contextPageField_eq (x : Option Context) :
    contextPageField x = match x with
      | none => [.octet 0]
      | some y => [.octet 1, .num (y.page : Nat)] := by
  cases x <;> rfl

/-- Settles O48. -/
theorem insertPushesAndPops : Obligations.InsertPushesAndPops := by
  intro n s hr
  refine ⟨fun hfull => unlessFrozen_answered hr (insert_stackFull hfull n), fun hroom => ⟨fun hn => ?_, ?_⟩,
    fun hempty => unlessFrozen_answered hr (insertEnd_stackEmpty hempty), fun rest top hstack => ?_⟩
  · exact unlessFrozen_answered hr (insert_noPage hroom hn)
  · rintro i p rfl hp
    exact unlessFrozen_answered hr (insert_taken hroom hp)
  · exact unlessFrozen_answered hr ((insertEnd_eq s hstack).trans (by rw [contextPageField_eq]; rfl))

/-! ### JUMP (R119) -/

/-- The state of LIVE moved to other steps (R19). -/
theorem State.moveLive_eq (s : State) (x : Context) (a b : Option SlotRef) (phase : Nat) (ended : Bool) :
    s.moveLive x a b phase ended =
      { s with
        field := s.field.move (a.toList ++ b.toList) (x.stepA.toList ++ x.stepB.toList)
        ctl := { s.ctl with live := some { x with stepA := a, stepB := b, phase := phase, ended := ended } } } :=
  rfl

theorem jump_badHour {h : Nat} (hh : 240 < h) : jump h s = (s, refuse .badHour) := if_pos hh

theorem jump_nothingLive {h : Nat} (hh : h ≤ 240) (hx : s.ctl.live = none) : jump h s = (s, refuse .nothingLive) := by
  rw [jump, if_neg (by omega), hx]

theorem jump_live {h : Nat} {x : Context} {a b : Option SlotRef} (hh : h ≤ 240) (hx : s.ctl.live = some x)
    (hpair : s.field.resolvePair (max h x.copy.first) x.copy.last = (a, b)) :
    jump h s = ((s.moveLive x a b 0 false).clearGlyphs,
      { outcome := .done, fields := optField stepFields a ++ if a.isSome then optField stepFields b else [] }) := by
  rw [jump, if_neg (by omega), hx]
  dsimp only
  rw [hpair]

/-- What the pair of steps of a range is: each the first READY hour of what is left of it (R96). -/
theorem State.FieldSound.resolvePair {lo hi : Nat} {a b : Option SlotRef} (hs : s.FieldSound)
    (hpair : s.field.resolvePair lo hi = (a, b)) :
    (∀ r, a = some r ↔ s.field.IsFirstReady lo hi r)
    ∧ (∀ r, a = some r → ∀ q, b = some q ↔ s.field.IsFirstReady (r.hour + 1) hi q) ∧ (a = none → b = none) := by
  have hv : s.view.Sound := s.fieldSound_iff_view.1 hs
  refine ⟨fun r => ?_, fun r hr q => ?_, fun hnone => ?_⟩
  · have hfirst : s.field.resolve lo hi = a := by rw [← FieldStore.resolvePair_fst, hpair]
    rw [← hfirst]
    exact hv.resolve_eq_some_iff
  · subst hr
    rw [(s.field.resolvePair_some hpair).2]
    exact hv.resolve_eq_some_iff
  · subst hnone
    exact s.field.resolvePair_none hpair

theorem jump_fields (a b : Option SlotRef) :
    (optField stepFields a ++ if a.isSome then optField stepFields b else []) = match a, b with
      | none, _ => [.octet 0]
      | some r, none => [.octet 1, .num r.hour, .num (r.slot : Nat), .octet 0]
      | some r, some q => [.octet 1, .num r.hour, .num (r.slot : Nat), .octet 1, .num q.hour, .num (q.slot : Nat)] := by
  match a, b with
  | none, _ => rfl
  | some _, none => rfl
  | some _, some _ => rfl

/-- Settles O49. -/
theorem jumpResolvesLive : Obligations.JumpResolvesLive := by
  intro h s hr
  refine ⟨fun hh => unlessFrozen_answered hr (jump_badHour hh),
    fun hh => ⟨fun hx => unlessFrozen_answered hr (jump_nothingLive hh hx), fun x hx hs => ?_⟩⟩
  obtain ⟨a, b, hpair⟩ : ∃ a b, s.field.resolvePair (max h x.copy.first) x.copy.last = (a, b) := ⟨_, _, rfl⟩
  exact ⟨a, b, unlessFrozen_answered hr ((jump_live hh hx hpair).trans (by rw [jump_fields]; rfl)),
    hs.resolvePair hpair⟩

end Sys2Proof.Machine
end

section
/-! PROOFS. The advance of LIVE (O51): what the resolutions of its steps find, and then one row at a time. -/

namespace Sys2Proof.Machine

variable {s : State}

/-! ### What is resolved (R14, R96, R140) -/

theorem State.FieldSound.resolve_some {lo hi : Nat} {r : SlotRef} (hs : s.FieldSound)
    (h : s.field.IsFirstReady lo hi r) : s.field.resolve lo hi = some r :=
  (s.fieldSound_iff_view.1 hs).resolve_eq_some_iff.2 h

theorem State.FieldSound.resolve_none {lo hi : Nat} (hs : s.FieldSound) (h : ∀ r, ¬ s.field.IsFirstReady lo hi r) :
    s.field.resolve lo hi = none :=
  Option.eq_none_iff_forall_ne_some.2 fun r hr => h r ((s.fieldSound_iff_view.1 hs).resolve_eq_some_iff.1 hr)

/-- An option that is some reference exactly where that is the first READY step is the resolution. -/
theorem State.FieldSound.resolve_eq {lo hi : Nat} {b : Option SlotRef} (hs : s.FieldSound)
    (h : ∀ r, b = some r ↔ s.field.IsFirstReady lo hi r) : s.field.resolve lo hi = b :=
  Option.ext fun r => (s.fieldSound_iff_view.1 hs).resolve_eq_some_iff.trans (h r).symm

theorem State.FieldSound.resolvePair_some {lo hi : Nat} {a : SlotRef} {b : Option SlotRef} (hs : s.FieldSound)
    (ha : s.field.IsFirstReady lo hi a) (hb : ∀ r, b = some r ↔ s.field.IsFirstReady (a.hour + 1) hi r) :
    s.field.resolvePair lo hi = (some a, b) := by
  rw [FieldStore.resolvePair, hs.resolve_some ha]
  exact congrArg (Prod.mk (some a)) (hs.resolve_eq hb)

theorem State.FieldSound.resolvePair_none {lo hi : Nat} (hs : s.FieldSound)
    (h : ∀ r, ¬ s.field.IsFirstReady lo hi r) : s.field.resolvePair lo hi = (none, none) := by
  rw [FieldStore.resolvePair, hs.resolve_none h]

/-- The slot published again for step a's hour is the one READY slot of that hour, as the Timeline lists an hour
once. -/
theorem FieldView.Sound.republished_iff {v : FieldView} (hv : v.Sound) {a r : SlotRef} :
    (v.field.republished a).map v.field.refTo = some r ↔ v.field.IsFirstReady a.hour a.hour r ∧ r.slot ≠ a.slot := by
  constructor
  · intro h
    obtain ⟨i, hfind, rfl⟩ := Option.map_eq_some_iff.1 h
    have hmem := List.mem_of_find?_eq_some hfind
    obtain ⟨hour, hne⟩ : v.field.hourOf i = a.hour ∧ i ≠ a.slot := by simpa using List.find?_some hfind
    exact ⟨⟨(hv.ready i).2 hmem, ⟨hv.hour_of_mem hmem, rfl⟩, ⟨hour.ge, hour.le⟩,
      fun _ _ _ _ hlo _ => hour.le.trans hlo⟩, hne⟩
  · rintro ⟨hr, hne⟩
    have hmem := (hv.ready _).1 hr.ready
    have hour : v.field.hourOf r.slot = a.hour :=
      (show v.field.hourOf r.slot = r.hour by simp [FieldStore.hourOf, hr.names.1]).trans
        (le_antisymm hr.range.2 hr.range.1)
    obtain ⟨i, hfind⟩ : ∃ i, v.field.republished a = some i :=
      Option.isSome_iff_exists.1 (List.find?_isSome.2 ⟨r.slot, hmem, by simp [hour, hne]⟩)
    have hfound : v.field.hourOf i = a.hour ∧ i ≠ a.slot := by simpa using List.find?_some hfind
    have hi : i = r.slot := hv.eq_of_hourOf (List.mem_of_find?_eq_some hfind) hmem (hfound.1.trans hour.symm)
    obtain ⟨-, href, -⟩ := v.field.resolve_some (hv.resolve_eq_some_iff.2 hr)
    rw [hfind, hi, Option.map_some, ← href]

/-! ### An ADVANCE that acts as a take (R139) -/

/-- LIVE's page ends with a take: its end action is ADVANCE, no insert is up, and NEXT is READY. -/
def State.Advances (s : State) (x : Context) : Prop :=
  x.copy.endAction = .advance ∧ s.ctl.stack = [] ∧ ∃ n, s.ctl.next = some n ∧ n.prep = some .ready

theorem ShowController.mayAdvance_iff {y : ShowController} :
    y.mayAdvance = true ↔ y.stack = [] ∧ ∃ n, y.next = some n ∧ n.prep = some .ready := by
  simp [ShowController.mayAdvance, ShowController.nextReady, Option.any_eq_true, and_comm]

theorem State.advances_iff {x : Context} :
    s.Advances x ↔ x.copy.endAction = .advance ∧ s.ctl.mayAdvance = true :=
  and_congr_right' ShowController.mayAdvance_iff.symm

theorem State.advanceTake_eq {n : Context} (h : s.ctl.next = some n) : s.advanceTake = s.takeNext n := by
  rw [State.advanceTake, h]

/-! ### Held, empty and starved (R117, R141) -/

theorem State.advance_still (h : s.ctl.live = none ∨ s.ctl.hold = true) : s.advance = s := by
  unfold State.advance
  split
  · next x hx => exact if_pos (h.resolve_left (by simp [hx]))
  · rfl

theorem State.advance_live {x : Context} (hx : s.ctl.live = some x) (hhold : s.ctl.hold = false) :
    s.advance = s.advanceLive x := by
  rw [State.advance, hx]
  exact if_neg (by simp [hhold])

theorem State.resolveStarved_none {x : Context} (hs : s.FieldSound)
    (h : ∀ r, ¬ s.field.IsFirstReady x.copy.first x.copy.last r) : s.resolveStarved x = s := by
  rw [State.resolveStarved, hs.resolvePair_none h]

theorem State.resolveStarved_some {x : Context} {a : SlotRef} {b : Option SlotRef} (hs : s.FieldSound)
    (ha : s.field.IsFirstReady x.copy.first x.copy.last a)
    (hb : ∀ r, b = some r ↔ s.field.IsFirstReady (a.hour + 1) x.copy.last r) :
    s.resolveStarved x = s.moveLive x (some a) b 0 false := by
  rw [State.resolveStarved, hs.resolvePair_some ha hb]

/-! ### Ended (R140) -/

section Ended

variable {x : Context} {a : SlotRef}

theorem State.endedCheck_later {b : SlotRef} (hs : s.FieldSound)
    (h : s.field.IsFirstReady (a.hour + 1) x.copy.last b) :
    s.endedCheck x a = s.moveLive x (some a) (some b) x.phase false := by
  rw [State.endedCheck, FieldStore.resolveAfter, hs.resolve_some h]

theorem State.endedCheck_advances {n : Context} (hs : s.FieldSound)
    (h : ∀ r, ¬ s.field.IsFirstReady (a.hour + 1) x.copy.last r) (hadv : s.Advances x) (hn : s.ctl.next = some n) :
    s.endedCheck x a = s.takeNext n := by
  rw [State.endedCheck, FieldStore.resolveAfter, hs.resolve_none h, ← State.advanceTake_eq hn]
  exact if_pos (State.advances_iff.1 hadv)

/-- With no later hour and no take, the check turns on whether step a's hour has been published again. -/
theorem State.endedCheck_stays (hs : s.FieldSound) (h : ∀ r, ¬ s.field.IsFirstReady (a.hour + 1) x.copy.last r)
    (hadv : ¬ s.Advances x) :
    s.endedCheck x a =
      ((s.field.republished a).map s.field.refTo).elim s fun r => s.moveLive x (some r) x.stepB x.phase true := by
  rw [State.endedCheck, FieldStore.resolveAfter, hs.resolve_none h]
  dsimp only
  rw [if_neg fun hm => hadv (State.advances_iff.2 hm)]
  cases s.field.republished a <;> rfl

theorem State.endedCheck_republished {r : SlotRef} (hs : s.FieldSound)
    (h : ∀ r, ¬ s.field.IsFirstReady (a.hour + 1) x.copy.last r) (hadv : ¬ s.Advances x)
    (hr : s.field.IsFirstReady a.hour a.hour r) (hne : r.slot ≠ a.slot) :
    s.endedCheck x a = s.moveLive x (some r) x.stepB x.phase true := by
  have hrep : (s.field.republished a).map s.field.refTo = some r :=
    (s.fieldSound_iff_view.1 hs).republished_iff.2 ⟨hr, hne⟩
  rw [State.endedCheck_stays hs h hadv, hrep]
  rfl

theorem State.endedCheck_self (hs : s.FieldSound) (h : ∀ r, ¬ s.field.IsFirstReady (a.hour + 1) x.copy.last r)
    (hadv : ¬ s.Advances x) (hr : ∀ r, s.field.IsFirstReady a.hour a.hour r → r.slot = a.slot) :
    s.endedCheck x a = s := by
  have hrep : (s.field.republished a).map s.field.refTo = none :=
    Option.eq_none_iff_forall_ne_some.2 fun r he => by
      obtain ⟨hfirst, hne⟩ := (s.fieldSound_iff_view.1 hs).republished_iff.1 he
      exact hne (hr r hfirst)
  rw [State.endedCheck_stays hs h hadv, hrep]
  rfl

end Ended

/-! ### The step boundary and the end actions (R137 to R139) -/

section Boundary

variable {x : Context} {a : SlotRef}

theorem State.stepBoundary_later {a' : SlotRef} {b' : Option SlotRef} (hs : s.FieldSound)
    (ha : s.field.IsFirstReady (a.hour + 1) x.copy.last a')
    (hb : ∀ r, b' = some r ↔ s.field.IsFirstReady (a'.hour + 1) x.copy.last r) :
    s.stepBoundary x a = s.moveLive x (some a') b' 0 x.ended := by
  rw [State.stepBoundary, FieldStore.resolveAfter, hs.resolve_some ha, ← hs.resolve_eq hb]
  rfl

theorem State.stepBoundary_ends (hs : s.FieldSound) (h : ∀ r, ¬ s.field.IsFirstReady (a.hour + 1) x.copy.last r) :
    s.stepBoundary x a = s.endAction x := by
  rw [State.stepBoundary, FieldStore.resolveAfter, hs.resolve_none h]

theorem State.endAction_holdLast
    (h : x.copy.endAction = .holdLast ∨ (x.copy.endAction = .advance ∧ ¬ s.Advances x)) :
    s.endAction x = s.endHoldLast x := by
  rcases h with h | ⟨h, hadv⟩
  · rw [State.endAction, h]
  · rw [State.endAction, h]
    exact if_neg fun hm => hadv (State.advances_iff.2 ⟨h, hm⟩)

theorem State.endAction_advances {n : Context} (hadv : s.Advances x) (hn : s.ctl.next = some n) :
    s.endAction x = s.takeNext n := by
  obtain ⟨hend, hmay⟩ := State.advances_iff.1 hadv
  rw [State.endAction, hend, ← State.advanceTake_eq hn]
  exact if_pos hmay

theorem State.endAction_loop {a b : Option SlotRef} (h : x.copy.endAction = .loop)
    (hpair : s.field.resolvePair x.copy.first x.copy.last = (a, b)) : s.endAction x = s.moveLive x a b 0 false := by
  rw [State.endAction, h]
  dsimp only
  rw [State.endLoop, hpair]

end Boundary

/-! ### The rows of the advance (R136) -/

section Rows

variable {x : Context} {a : SlotRef} (hx : s.ctl.live = some x) (hhold : s.ctl.hold = false)
include hx hhold

theorem State.advance_starved (ha : x.stepA = none) : s.advance = s.resolveStarved x := by
  rw [State.advance_live hx hhold, State.advanceLive, ha]

theorem State.advance_ended (ha : x.stepA = some a) (hended : x.ended = true) : s.advance = s.endedCheck x a := by
  rw [State.advance_live hx hhold, State.advanceLive, ha]
  exact if_pos hended

theorem State.advance_within (ha : x.stepA = some a) (hended : x.ended = false)
    (hphase : x.phase + 1 < x.copy.framesPerStep) :
    s.advance = { s with ctl := { s.ctl with live := some { x with phase := x.phase + 1 } } } := by
  rw [State.advance_live hx hhold, State.advanceLive, ha]
  dsimp only
  rw [if_neg (by simp [hended]), if_pos hphase]
  rfl

theorem State.advance_boundary (ha : x.stepA = some a) (hended : x.ended = false)
    (hphase : x.copy.framesPerStep ≤ x.phase + 1) : s.advance = s.stepBoundary x a := by
  rw [State.advance_live hx hhold, State.advanceLive, ha]
  dsimp only
  rw [if_neg (by simp [hended]), if_neg (by omega)]

end Rows

/-- Settles O51: each row of the advance by the row's own lemma. -/
theorem liveAdvancesByOneRow : Obligations.LiveAdvancesByOneRow := by
  intro s hs f
  refine ⟨State.advance_still, fun x hx hhold => ?_⟩
  intro lo hi moved advances
  refine ⟨fun hstarved => ?_, fun a ha => ⟨fun hended => ?_, fun hended => ⟨?_, fun hphase => ?_⟩⟩⟩
  case refine_1 =>
    rw [State.advance_starved hx hhold hstarved]
    exact ⟨State.resolveStarved_none hs, fun a b => State.resolveStarved_some hs⟩
  case refine_2 =>
    rw [State.advance_ended hx hhold ha hended]
    exact ⟨fun b => State.endedCheck_later hs, fun hnone =>
      ⟨fun hadv n => State.endedCheck_advances hs hnone hadv, fun hadv =>
        ⟨fun r => State.endedCheck_republished hs hnone hadv, State.endedCheck_self hs hnone hadv⟩⟩⟩
  case refine_3 => exact State.advance_within hx hhold ha hended
  case refine_4 =>
    rw [State.advance_boundary hx hhold ha hended hphase]
    refine ⟨fun a' b' ha' hb' => ?_, fun hnone => ?_⟩
    · rw [State.stepBoundary_later hs ha' hb', hended]
      rfl
    · rw [State.stepBoundary_ends hs hnone]
      refine ⟨fun hend => ?_, fun hadv n => State.endAction_advances hadv,
        fun hloop => ⟨fun h => ?_, fun a' b' ha' hb' => ?_⟩⟩
      · rw [State.endAction_holdLast hend, State.endHoldLast, ha]
        rfl
      · exact State.endAction_loop hloop (hs.resolvePair_none h)
      · exact State.endAction_loop hloop (hs.resolvePair_some ha' hb')

end Sys2Proof.Machine
end

section
/-! PROOFS. A request's command: the request handled on its port, and the status header of its reply (O5). -/

namespace Sys2Proof.Machine

/-! ### The port and the time a request is taken at (R167) -/

/-- Where the command names no port, the kind of its request has one port of its own. -/
theorem Instr.requestPort_mem {c : Instr} {r : Request} {p : Port} (hr : c.request? = some r)
    (hp : c.requestPort = some p) : ∃ ps, kindPorts (requestKind r) = some ps ∧ p ∈ ps := by
  have mem_all (q : Port) : q ∈ [Port.ip, .dp, .pp] := by cases q <;> simp
  have mem_head (h : (kindPorts (requestKind r)).bind List.head? = some p) :
      ∃ ps, kindPorts (requestKind r) = some ps ∧ p ∈ ps := by
    obtain ⟨ps, hps, hhead⟩ := Option.bind_eq_some_iff.1 h
    exact ⟨ps, hps, List.mem_of_head? hhead⟩
  cases c with
  | cellRead | areaRead | statusRead | timelineRead | noticeRead | noticeMask =>
    cases hr
    exact ⟨_, rfl, mem_all p⟩
  | _ =>
    cases hr
    all_goals exact mem_head hp

theorem exec_requestPort {c : Instr} {r : Request} {p : Port} (hr : c.request? = some r)
    (hp : c.requestPort = some p) (s : State) :
    exec c s = unlessFrozen s (respond p (handle p r (s.at c.requestTime))) := by
  have untimed (h : c.requestTime = 0) : s.at c.requestTime = s := by rw [h, State.at_zero]
  cases c with
  | referenceSet | timingRead | outputMode | playoutReset =>
    cases hr
    cases hp
    rfl
  | _ =>
    cases hr
    all_goals
      cases hp
      rw [untimed rfl]
      rfl

/-! ### The status header (R169, R121) -/

theorem NoticeRecord.holdsSetting_iff {x : NoticeRecord} {m : NoticeMask} {g : Setting} :
    x.holdsSetting m g = true ↔ ∃ e, x.get e = true ∧ m.get (noticeGroup e) = g := by
  simp [NoticeRecord.holdsSetting, mem_allNotices]

theorem liveStateCode_liveState (y : ShowController) :
    liveStateCode (liveState y) = match y.live with
      | none => 0
      | some _ => if y.hold then 2 else 1 := by
  unfold liveState
  cases y.live <;> cases y.hold <;> rfl

theorem lockShownCode_lockShown (s : State) :
    lockShownCode (lockShown s) = if s.output.mode = .dormant then 4 else match s.timing.lock with
      | .freeRun => 0
      | .acquiring => 1
      | .locked => 2
      | .holdover => 3 := by
  unfold lockShown
  split
  · rfl
  · cases s.timing.lock <;> rfl

theorem option_any_eq_elim {α : Type} (o : Option α) (f : α → Bool) : o.any f = o.elim false f := by
  cases o <;> rfl

/-- Settles O5. -/
theorem requestCommandsAreHandled : Obligations.RequestCommandsAreHandled := by
  refine ⟨fun c r p s hr hp hreset => ⟨Instr.requestPort_mem hr hp, ?_⟩, fun p s => ⟨fun a => rfl, ?_⟩⟩
  · rw [exec_requestPort hr hp, unlessFrozen_eq s hreset]
  · intro x pending flag h
    refine ⟨NoticeRecord.holdsSetting_iff, NoticeRecord.holdsSetting_iff, ?_⟩
    have hlive := liveStateCode_liveState s.ctl
    have hlock := lockShownCode_lockShown s
    simp only [headerFields, h, statusHeader, option_any_eq_elim, hlive, hlock, field_forms]
    rfl

end Sys2Proof.Machine
end

section
/-! PROOFS. Frame Timing: a FREF pulse by the lock state (O52), and the events of the timebase (O53). -/

namespace Sys2Proof.Machine

variable {s : State}

/-! ### A frame start that falls due (R126, R133) -/

/-- A due time that has not passed is waited for (log entry 12). -/
theorem State.makeOverdue_waits {d : Nat} (h : s.timing.nextDue = some d) (hd : s.now ≤ d) : s.makeOverdue = s := by
  unfold State.makeOverdue
  rw [h]
  exact if_neg (Nat.not_lt.2 hd)

/-- A due time that has passed is made up for at once. -/
theorem State.makeOverdue_passed {d : Nat} (h : s.timing.nextDue = some d) (hd : d < s.now) :
    s.makeOverdue =
      (s.withTiming { s.timing with nextDue := some (s.now + nominalPeriod s.timing.rate) }).frameStart s.now := by
  unfold State.makeOverdue
  rw [h]
  exact if_pos hd

/-! ### Pulses (R125 to R129) -/

theorem goodInterval_iff {r : Rate} {d : Nat} :
    goodInterval r d = true ↔ nominalPeriod r ≤ d + tolerance r ∧ d ≤ nominalPeriod r + tolerance r := by
  simp [goodInterval]

section Rows

variable {d l : Nat}

theorem State.pulse_freeRun (h : s.timing.lock = .freeRun) : s.pulse = s.firstPulse := by
  simp only [State.pulse, h]

theorem State.pulse_acquiring (h : s.timing.lock = .acquiring) (hl : s.timing.lastPulse = some l) :
    s.pulse = s.acquiringPulse (s.now - l) := by
  simp only [State.pulse, h, hl]

theorem State.pulse_locked (h : s.timing.lock = .locked) (hl : s.timing.lastPulse = some l) :
    s.pulse = s.lockedPulse (s.now - l) := by
  simp only [State.pulse, h, hl]

theorem State.pulse_holdover (h : s.timing.lock = .holdover) :
    s.pulse = (s.firstPulse.withTiming { s.firstPulse.timing with
      nextDue := some (s.duePeriodAfterLast s.timing.rate) }).makeOverdue := by
  simp only [State.pulse, h]

theorem State.acquiringPulse_bad (h : goodInterval s.timing.rate d = false) :
    s.acquiringPulse d = s.withTiming { s.timing with goodIntervals := 0, lastPulse := some s.now } := by
  simp [State.acquiringPulse, h]

theorem State.acquiringPulse_counts (h : goodInterval s.timing.rate d = true) (hc : s.timing.goodIntervals < 7) :
    s.acquiringPulse d = s.withTiming { s.timing with
      measured := d, goodIntervals := s.timing.goodIntervals + 1, lastPulse := some s.now } := by
  unfold State.acquiringPulse
  dsimp only
  rw [if_pos h, if_neg (by omega)]

theorem State.acquiringPulse_locks (h : goodInterval s.timing.rate d = true) (hc : s.timing.goodIntervals = 7) :
    s.acquiringPulse d = s.lockingPulse d := by
  unfold State.acquiringPulse
  dsimp only
  rw [if_pos h, if_pos (by omega)]

/-- A locking pulse within half a period of the last frame start makes none and is counted as a runt (R128). -/
theorem State.lockingPulse_runt {f : Nat} (hf : s.timing.lastFrameStart = some f)
    (h : s.now - f < halfPeriod s.timing.rate) :
    s.lockingPulse d = (s.withTiming { s.timing with
      lock := .locked, measured := d, goodIntervals := s.timing.goodIntervals + 1, lastPulse := some s.now,
      nextDue := none, runts := min 65535 (s.timing.runts + 1) }).raise .refLocked := by
  unfold State.lockingPulse
  dsimp only
  rw [if_pos (by simpa [hf] using h)]
  rfl

/-- Any other makes a frame start, also where none was ever made (log entry 14). -/
theorem State.lockingPulse_starts
    (h : ∀ f, s.timing.lastFrameStart = some f → halfPeriod s.timing.rate ≤ s.now - f) :
    s.lockingPulse d = ((s.withTiming { s.timing with
      lock := .locked, measured := d, goodIntervals := s.timing.goodIntervals + 1, lastPulse := some s.now,
      nextDue := none }).raise .refLocked).frameStart s.now := by
  have hfar : ¬ s.timing.lastFrameStart.any (fun f => s.now - f < halfPeriod s.timing.rate) = true := by
    simpa [Option.any_eq_true] using h
  unfold State.lockingPulse
  dsimp only
  rw [if_neg hfar]

theorem State.lockedPulse_glitch (h : d < halfPeriod s.timing.rate) :
    s.lockedPulse d = s.withTiming { s.timing with glitches := min 65535 (s.timing.glitches + 1) } := if_pos h

theorem State.lockedPulse_accepted (h : halfPeriod s.timing.rate ≤ d) :
    s.lockedPulse d = (s.withTiming { s.timing with
      lastPulse := some s.now
      measured := if goodInterval s.timing.rate d then d else s.timing.measured }).frameStart s.now :=
  if_neg (Nat.not_lt.2 h)

theorem State.lockedPulse_good (h : halfPeriod s.timing.rate ≤ d) (hg : goodInterval s.timing.rate d = true) :
    s.lockedPulse d =
      (s.withTiming { s.timing with lastPulse := some s.now, measured := d }).frameStart s.now := by
  rw [State.lockedPulse_accepted h, if_pos hg]

theorem State.lockedPulse_bad (h : halfPeriod s.timing.rate ≤ d) (hg : goodInterval s.timing.rate d = false) :
    s.lockedPulse d = (s.withTiming { s.timing with lastPulse := some s.now }).frameStart s.now := by
  rw [State.lockedPulse_accepted h, hg]
  rfl

end Rows

/-- A change of mode turns the line-up flag OFF into ON_AIR (R160). -/
theorem lineup_into (b : Bool) (m : Mode) : (b && decide (m ≠ .onAir)) = if m = .onAir then false else b := by
  by_cases h : m = .onAir
  · simp [h]
  · simp [h]

/-- The waking of a DORMANT generator: Frame Timing starts, the Assembler takes the head entry, and the fill and key
are chosen (R184). -/
theorem State.leaveDormant_eq (s : State) (m : Mode) :
    s.leaveDormant m = State.refillKeyed (State.takeHead { s with
      timing := { s.timing with
        lock := .freeRun, nextDue := some (s.now + nominalPeriod s.timing.rate), started := false }
      output := { s.output with mode := m, lineup := if m = .onAir then false else s.output.lineup } }) := by
  unfold State.leaveDormant
  rw [lineup_into]
  rfl

theorem execFrefPulse_dormant (h : s.resetLine = false) (hm : s.output.mode = .dormant) (t : Nat) :
    exec (.frefPulse t) s = .next (s.at t).wakingPulse :=
  (unlessFrozen_eq s h).trans (congrArg _ (if_pos hm))

theorem execFrefPulse_running (h : s.resetLine = false) (hm : s.output.mode ≠ .dormant) (t : Nat) :
    exec (.frefPulse t) s = .next (s.at t).pulse :=
  (unlessFrozen_eq s h).trans (congrArg _ (if_neg hm))

/-- Settles O52: the waking in DORMANT, and otherwise one row for each lock state. -/
theorem pulseJudgedByLockState : Obligations.PulseJudgedByLockState := by
  intro t s hr u x nominal d good run
  refine ⟨fun hm => ?_, fun hm => ?_⟩
  · exact (execFrefPulse_dormant hr hm t).trans (congrArg _ (State.leaveDormant_eq _ _))
  · have hrun : run = .next u.pulse := execFrefPulse_running hr hm t
    have hgood {l : Nat} : goodInterval x.rate (d l) = true ↔ good l := goodInterval_iff
    have hbad {l : Nat} (h : ¬ good l) : goodInterval x.rate (d l) = false :=
      Bool.eq_false_iff.2 fun hg => h (hgood.1 hg)
    rw [hrun]
    refine ⟨fun hlock => ?_, fun l hlock hl => ?_, fun l hlock hl => ?_, fun hlock => ?_⟩
    · exact congrArg _ (State.pulse_freeRun (s := u) hlock)
    · rw [State.pulse_acquiring (s := u) hlock hl]
      refine ⟨fun h => congrArg _ (State.acquiringPulse_bad (s := u) (hbad h)),
        fun h hc => congrArg _ (State.acquiringPulse_counts (s := u) (hgood.2 h) hc), fun h hc => ?_⟩
      intro locked
      rw [State.acquiringPulse_locks (s := u) (hgood.2 h) hc]
      have hcount : u.timing.goodIntervals + 1 = 8 := congrArg (· + 1) hc
      refine ⟨fun f hf hrunt => ?_, fun hlate => ?_⟩
      · rw [State.lockingPulse_runt (s := u) hf hrunt, hcount]
        rfl
      · rw [State.lockingPulse_starts (s := u) hlate, hcount]
        rfl
    · rw [State.pulse_locked (s := u) hlock hl]
      exact ⟨fun h => congrArg _ (State.lockedPulse_glitch (s := u) h),
        fun h hg => congrArg _ (State.lockedPulse_good (s := u) h (hgood.2 hg)),
        fun h hg => congrArg _ (State.lockedPulse_bad (s := u) h (hbad hg))⟩
    · rw [State.pulse_holdover (s := u) hlock]
      exact ⟨fun h => congrArg _ (State.makeOverdue_waits rfl h),
        fun h => congrArg _ (State.makeOverdue_passed rfl h)⟩

/-! ### The events of the timebase (R126, R127, R130, R131) -/

section Events

variable {d l : Nat}

theorem State.internalFrameStart_running (h : s.timing.lock ≠ .holdover) :
    s.internalFrameStart d =
      ((s.at d).withTiming { s.timing with nextDue := some (d + nominalPeriod s.timing.rate) }).frameStart d :=
  if_neg h

theorem State.internalFrameStart_holdover (h : s.timing.lock = .holdover) (hc : s.timing.holdover < 249) :
    s.internalFrameStart d =
      ((s.at d).withTiming { s.timing with
        holdover := s.timing.holdover + 1, nextDue := some (d + s.timing.measured) }).frameStart d :=
  (if_pos h).trans (if_neg (by omega))

/-- The 250th internal frame start of a holdover ends it (R131). -/
theorem State.internalFrameStart_ends (h : s.timing.lock = .holdover) (hc : s.timing.holdover = 249) :
    s.internalFrameStart d =
      (((s.at d).withTiming { s.timing with
        lock := .freeRun, holdover := 0, nextDue := some (d + nominalPeriod s.timing.rate) }).raise
          .freeRun).frameStart d :=
  (if_pos h).trans (if_pos (by omega))

theorem execInternalFrameStart_due (hr : s.resetLine = false) (h : s.timing.nextDue = some d) :
    exec .internalFrameStart s = .next (s.internalFrameStart d) := by
  refine (unlessFrozen_eq s hr).trans ?_
  rw [h]

theorem execInternalFrameStart_stopped (hr : s.resetLine = false) (h : s.timing.nextDue = none) :
    exec .internalFrameStart s = .next s := by
  refine (unlessFrozen_eq s hr).trans ?_
  rw [h]

theorem execHoldoverEnd_ends (hr : s.resetLine = false) (h : s.timing.nextDue = some d)
    (hlock : s.timing.lock = .holdover) (hc : s.timing.holdover = 249) :
    exec .holdoverEnd s = .next (s.internalFrameStart d) := by
  refine (unlessFrozen_eq s hr).trans ?_
  rw [h]
  exact congrArg _ (if_pos ⟨hlock, hc⟩)

/-- HOLDOVER_END is no event but at the 250th internal frame start of a holdover (log entries 2 and 8). -/
theorem execHoldoverEnd_none (hr : s.resetLine = false)
    (h : s.timing.nextDue = none ∨ ¬ (s.timing.lock = .holdover ∧ s.timing.holdover = 249)) :
    exec .holdoverEnd s = .next s := by
  refine (unlessFrozen_eq s hr).trans (congrArg _ ?_)
  cases hd : s.timing.nextDue with
  | none => rfl
  | some d => exact if_neg (h.resolve_left (by simp [hd]))

theorem State.silenceTime_eq (h : s.timing.lastPulse = some l) :
    s.silenceTime = l + oneAndHalfPeriods s.timing.rate := by
  unfold State.silenceTime
  rw [h]

theorem execAcquiringSilenceExpiry_acquiring (hr : s.resetLine = false) (h : s.timing.lock = .acquiring) :
    exec .acquiringSilenceExpiry s = .next
      (((s.at s.silenceTime).withTiming { s.timing with lock := .freeRun, goodIntervals := 0 }).raise .freeRun) :=
  (unlessFrozen_eq s hr).trans (congrArg _ (if_pos h))

theorem execAcquiringSilenceExpiry_none (hr : s.resetLine = false) (h : s.timing.lock ≠ .acquiring) :
    exec .acquiringSilenceExpiry s = .next s :=
  (unlessFrozen_eq s hr).trans (congrArg _ (if_neg h))

theorem execRefLost_locked (hr : s.resetLine = false) (h : s.timing.lock = .locked) :
    exec .refLost s = .next
      ((((s.at s.silenceTime).withTiming { s.timing with
        lock := .holdover, holdover := 1, nextDue := some (s.silenceTime + s.timing.measured) }).raise
          .refLost).frameStart s.silenceTime) :=
  (unlessFrozen_eq s hr).trans (congrArg _ (if_pos h))

theorem execRefLost_none (hr : s.resetLine = false) (h : s.timing.lock ≠ .locked) : exec .refLost s = .next s :=
  (unlessFrozen_eq s hr).trans (congrArg _ (if_neg h))

end Events

/-- Settles O53: each event where its timer runs, and where it does not. -/
theorem timebaseEvents : Obligations.TimebaseEvents := by
  intro s hr x nominal
  refine ⟨fun h => ⟨execInternalFrameStart_stopped hr h, execHoldoverEnd_none hr (.inl h)⟩,
    fun h => execHoldoverEnd_none hr (.inr h), fun d hd => ?_, execAcquiringSilenceExpiry_none hr,
    execRefLost_none hr, fun l hl => ?_⟩
  · have hrun := execInternalFrameStart_due hr hd
    refine ⟨fun h => ?_, fun h hc => ?_, fun h hc => ?_⟩
    · have hlock : s.timing.lock ≠ .holdover := by
        rcases h with h | h
        · exact ne_of_eq_of_ne h nofun
        · exact ne_of_eq_of_ne h nofun
      exact hrun.trans (congrArg _ (State.internalFrameStart_running hlock))
    · exact hrun.trans (congrArg _ (State.internalFrameStart_holdover h hc))
    · have hends := State.internalFrameStart_ends (d := d) h hc
      exact ⟨hrun.trans (congrArg _ hends), (execHoldoverEnd_ends hr hd h hc).trans (congrArg _ hends)⟩
  · have htime : s.silenceTime = l + oneAndHalfPeriods x.rate := State.silenceTime_eq hl
    refine ⟨fun h => ?_, fun h => ?_⟩
    · rw [execAcquiringSilenceExpiry_acquiring hr h, htime]
      rfl
    · rw [execRefLost_locked hr h, htime]
      rfl

end Sys2Proof.Machine
end

section
/-! PROOFS. The requests that set Frame Timing and the modes, as exact next states: REFERENCE_SET (O54), LINEUP and
OUTPUT_MODE (O59), PLAYOUT_RESET (O60). -/

namespace Sys2Proof.Machine

variable {s : State}

/-! ### What a frame start does to Frame Timing (R124) -/

theorem State.frameStart_timing (s : State) (t : Nat) :
    (s.frameStart t).timing = { s.timing with
      frameCount := (s.timing.frameCount + 1) % 4294967296, lastFrameStart := some t, started := true } := by
  simp [State.frameStart]

theorem State.frameStart_mode (s : State) (t : Nat) : (s.frameStart t).output.mode = s.output.mode :=
  congrArg Settings.mode (State.Plays.frameStart (.refl s)).settings

/-- A frame start changes no lock state. -/
theorem lockShown_frameStart (s : State) (t : Nat) : lockShown (s.frameStart t) = lockShown s := by
  simp only [lockShown, State.frameStart_mode, State.frameStart_timing]

/-- In DORMANT the lock state is shown as STOPPED (R134, log entry 18). -/
theorem lockShownCode_dormant (h : s.output.mode = .dormant) : lockShownCode (lockShown s) = 4 := by
  rw [lockShownCode_lockShown, if_pos h]

/-! ### REFERENCE_SET (R133) -/

theorem rateOfCode_none {n : Nat} (h25 : n ≠ 25) (h30 : n ≠ 30) (h50 : n ≠ 50) (h60 : n ≠ 60) :
    rateOfCode n = none := by
  unfold rateOfCode
  split
  · exact absurd rfl h25
  · exact absurd rfl h30
  · exact absurd rfl h50
  · exact absurd rfl h60
  · rfl

theorem rateCode_of_rateOfCode {n : Nat} {r : Rate} (h : rateOfCode n = some r) : rateCode r = n := by
  unfold rateOfCode at h
  split at h
  all_goals cases h
  all_goals rfl

theorem referenceSet_badLength {n : Nat} (h : rateOfCode n = none) : referenceSet n s = (s, refuse .badLength) := by
  simp only [referenceSet, h]

/-- REFERENCE_SET to the state `t`, replied with the rate and the lock state of `t`. -/
theorem referenceSet_taken {n k : Nat} {r : Rate} {t : State} (h : rateOfCode n = some r) (ht : s.setReference r = t)
    (hlock : lockShownCode (lockShown t) = k) :
    referenceSet n s = (t, { outcome := .done, fields := [.octet n, .octet k] }) := by
  simp only [referenceSet, h, ht, hlock, rateCode_of_rateOfCode h]
  rfl

section Reference

variable {r : Rate}

/-- ACQUIRING after a recent pulse, FREE_RUN otherwise (R133, log entry 12). -/
def State.referenceLock (s : State) (r : Rate) : LockState := if s.recentPulse r then .acquiring else .freeRun

theorem State.referenceLock_eq (s : State) (r : Rate) :
    s.referenceLock r = match s.timing.lastPulse with
      | some l => if s.now - l ≤ oneAndHalfPeriods r then .acquiring else .freeRun
      | none => .freeRun := by
  unfold State.referenceLock State.recentPulse
  cases s.timing.lastPulse with
  | none => rfl
  | some l => simp

theorem State.setReference_dormant (h : s.output.mode = .dormant) :
    s.setReference r = s.withTiming { s.timing with
      rate := r, measured := nominalPeriod r, goodIntervals := 0, holdover := 0 } := if_pos h

theorem State.setReference_running (h : s.output.mode ≠ .dormant) :
    s.setReference r = (s.withTiming { s.timing with
      rate := r, measured := nominalPeriod r, goodIntervals := 0, holdover := 0, lock := s.referenceLock r,
      nextDue := some (s.duePeriodAfterLast r) }).makeOverdue := if_neg h

/-- The lock state REFERENCE_SET replies outside DORMANT. -/
theorem lockShownCode_referenceLock (s : State) {t : State} (hm : t.output.mode ≠ .dormant)
    (h : t.timing.lock = s.referenceLock r) :
    lockShownCode (lockShown t) = if s.referenceLock r = .acquiring then 1 else 0 := by
  rw [lockShownCode_lockShown, if_neg hm, h]
  unfold State.referenceLock
  cases s.recentPulse r with
  | true => rfl
  | false => rfl

end Reference

/-- Settles O54: outside DORMANT by whether the new due time has passed. -/
theorem referenceSetChangesRate : Obligations.ReferenceSetChangesRate := by
  refine ⟨rfl, ?_⟩
  intro code t s hr u run
  refine ⟨fun h25 h30 h50 h60 =>
    unlessFrozen_answered hr (referenceSet_badLength (rateOfCode_none h25 h30 h50 h60)), ?_⟩
  intro r hcode nominal x
  refine ⟨fun hm => unlessFrozen_answered hr
    (referenceSet_taken hcode (State.setReference_dormant (s := u) hm) (lockShownCode_dormant hm)), fun hm => ?_⟩
  intro lock due v reply
  have hlock : u.referenceLock r = lock := u.referenceLock_eq r
  have hset : u.setReference r = (v due).makeOverdue := by
    rw [State.setReference_running (s := u) hm, hlock]
    rfl
  have hshown (n : Nat) : lockShownCode (lockShown (v n)) = if lock = .acquiring then 1 else 0 := by
    rw [lockShownCode_referenceLock u (t := v n) hm hlock.symm, hlock]
  refine ⟨fun h => ?_, fun h => ?_⟩
  · have hwait : (v due).makeOverdue = v due := State.makeOverdue_waits rfl h
    exact unlessFrozen_answered hr (referenceSet_taken hcode (hset.trans hwait) (hshown due))
  · have hpass : (v due).makeOverdue = (v (u.now + nominal)).frameStart u.now := State.makeOverdue_passed rfl h
    refine unlessFrozen_answered hr (referenceSet_taken hcode (hset.trans hpass) ?_)
    rw [lockShown_frameStart, hshown]

/-! ### LINEUP (R155, R160) -/

theorem onOffOfCode_none {n : Nat} (h : 1 < n) : onOffOfCode n = none := by
  match n, h with
  | n + 2, _ => rfl

theorem onOffOfCode_some {n : Nat} (h : n ≤ 1) : onOffOfCode n = some (n == 1) := by
  match n, h with
  | 0, _ => rfl
  | 1, _ => rfl

theorem flagField_onOff {n : Nat} (h : n ≤ 1) : flagField (n == 1) = [.octet n] := by
  match n, h with
  | 0, _ => rfl
  | 1, _ => rfl

/-- The line-up flag takes its value; in DORMANT a change of it chooses the fill at once (R155). -/
theorem State.setLineup_cases (s : State) (on : Bool) :
    s.setLineup on =
      if s.output.mode = .dormant ∧ s.output.lineup ≠ on then (s.withOutput { s.output with lineup := on }).refill
      else s.withOutput { s.output with lineup := on } := by
  rw [State.setLineup_eq]
  split
  · next h =>
    subst h
    simp [State.withOutput]
  · next h =>
    simp [Ne.symm h]

theorem lineup_badLength {n : Nat} (h : 1 < n) : lineup n s = (s, refuse .badLength) := by
  simp only [lineup, onOffOfCode_none h]

theorem lineup_onAir (h : s.output.mode = .onAir) : lineup 1 s = (s, refuse .onAir) := if_pos ⟨rfl, h⟩

theorem lineup_set {n : Nat} (h : n ≤ 1) (hair : n = 1 → s.output.mode ≠ .onAir) :
    lineup n s = (s.setLineup (n == 1), { outcome := .done, fields := [.octet n] }) := by
  simp only [lineup, onOffOfCode_some h, flagField_onOff h]
  exact if_neg fun ⟨hon, hm⟩ => hair (beq_iff_eq.1 hon) hm

/-! ### OUTPUT_MODE (R183, R184) -/

theorem State.refillKeyed_mode (s : State) : s.refillKeyed.output.mode = s.output.mode := rfl

theorem modeOfCode_none {n : Nat} (h : 3 < n) : modeOfCode n = none := by
  match n, h with
  | n + 4, _ => rfl

theorem modeCode_of_modeOfCode {n : Nat} {m : Mode} (h : modeOfCode n = some m) : modeCode m = n := by
  unfold modeOfCode at h
  split at h
  all_goals cases h
  all_goals rfl

theorem outputMode_badLength {n : Nat} (h : 3 < n) : outputMode n s = (s, refuse .badLength) := by
  simp only [outputMode, modeOfCode_none h]

section Modes

variable {n : Nat} {m : Mode}

theorem State.changeMode_self (h : m = s.output.mode) : s.changeMode m = s := if_pos h

theorem State.changeMode_running (h : m ≠ s.output.mode) (hm : m ≠ .dormant) (hs : s.output.mode ≠ .dormant) :
    s.changeMode m = s.withOutput { s.output with
      mode := m, lineup := if m = .onAir then false else s.output.lineup } := by
  unfold State.changeMode
  rw [if_neg h, if_neg hm, if_neg hs, lineup_into]

theorem State.changeMode_dormant (h : .dormant ≠ s.output.mode) : s.changeMode .dormant = s.enterDormant :=
  (if_neg h).trans (if_pos rfl)

theorem State.changeMode_leave (h : m ≠ .dormant) (hs : s.output.mode = .dormant) :
    s.changeMode m = s.leaveDormant m := by
  unfold State.changeMode
  rw [if_neg (hs ▸ h), if_neg h, if_pos hs]

/-- A change of mode to the state `t`, replied with the mode and the lock state of `t`. -/
theorem outputMode_taken {t : State} {k : Nat} (h : modeOfCode n = some m) (ht : s.changeMode m = t)
    (hmode : t.output.mode = m) (hlock : lockShownCode (lockShown t) = k) :
    outputMode n s = (t, { outcome := .done, fields := [.octet n, .octet k] }) := by
  simp only [outputMode, h, ht, hmode, hlock, modeCode_of_modeOfCode h]
  rfl

end Modes

/-- Settles O59: LINEUP by its flag, OUTPUT_MODE by the mode asked for and the mode in force. -/
theorem lineUpAndOutputMode : Obligations.LineUpAndOutputMode := by
  intro n t s hr
  refine ⟨fun h => unlessFrozen_answered hr (lineup_badLength h), fun h => unlessFrozen_answered hr (lineup_onAir h),
    ?_, fun h => unlessFrozen_answered hr (outputMode_badLength h), ?_⟩
  · intro h hair v
    refine unlessFrozen_answered hr ((lineup_set h hair).trans ?_)
    rw [State.setLineup_cases]
    rfl
  · intro m hm u run lineup lock
    have hu : lockShown u = lockShown s := rfl
    refine ⟨fun h => ?_, fun h hd hs => ?_, fun h hd => ?_, fun h hs => ?_⟩
    · refine unlessFrozen_answered hr (outputMode_taken hm (State.changeMode_self h) h.symm ?_)
      simp only [lock, hu]
      split
      · next hd => exact lockShownCode_dormant (h.symm.trans hd)
      · rfl
    · refine unlessFrozen_answered hr (outputMode_taken hm (State.changeMode_running h hd hs) rfl ?_)
      rw [lockShownCode_lockShown, if_neg hd]
      simp only [lock]
      rw [lockShownCode_lockShown, if_neg hd, if_neg hs]
      rfl
    · subst hd
      have hn : n = 3 := (modeCode_of_modeOfCode hm).symm
      subst hn
      exact unlessFrozen_answered hr (outputMode_taken hm (State.changeMode_dormant (s := u) h) rfl rfl)
    · have hd : m ≠ .dormant := fun hd => h (hd.trans hs.symm)
      have hmode : (u.leaveDormant m).output.mode = m := by simp [State.leaveDormant_eq, State.refillKeyed_mode]
      have hfree : lockShownCode (lockShown (u.leaveDormant m)) = 0 := by
        rw [lockShownCode_lockShown, if_neg (ne_of_eq_of_ne hmode hd), State.leaveDormant_eq]
        simp
      have htaken := outputMode_taken hm (State.changeMode_leave (s := u) hd hs) hmode hfree
      refine unlessFrozen_answered hr (htaken.trans ?_)
      rw [State.leaveDormant_eq]
      rfl

/-! ### PLAYOUT_RESET (R187) -/

/-- A fill chosen before the line-up flag changes is chosen again where the flag changes in DORMANT, and is not
otherwise (R155). -/
theorem State.setLineup_after_refill (s : State) (filled : Prop) [Decidable filled] (on : Bool) :
    (if filled ∧ s.output.mode = .dormant then s.refill else s).setLineup on =
      let v := s.withOutput { s.output with lineup := on }
      if s.output.mode = .dormant ∧ (filled ∨ s.output.lineup ≠ on) then v.refill else v := by
  by_cases hfill : filled ∧ s.output.mode = .dormant
  · obtain ⟨hf, hm⟩ := hfill
    rw [if_pos ⟨hf, hm⟩, if_pos ⟨hm, .inl hf⟩, State.setLineup_cases]
    split
    · rfl
    · next hkept =>
      have hon : s.output.lineup = on := not_not.1 fun hne => hkept ⟨hm, hne⟩
      subst hon
      rfl
  · rw [if_neg hfill, State.setLineup_cases]
    refine if_congr ⟨fun ⟨hm, hne⟩ => ⟨hm, .inr hne⟩, fun ⟨hm, h⟩ => ⟨hm, ?_⟩⟩ rfl rfl
    exact h.resolve_left fun hf => hfill ⟨hf, hm⟩

/-- SAFE_SET OFF and STILL, with the leaving of safe that follows, before the fill is chosen (R154, R157). -/
def State.safeTurnedOff (s : State) : State :=
  let left := s.output.safeSet && !s.safeLine
  State.raiseIf { s with output := { s.output with
    safeSet := false, card := .still, freeze := if left then none else s.output.freeze } } left .safeLeft

@[simp] theorem State.safeTurnedOff_output (s : State) :
    s.safeTurnedOff.output = { s.output with
      safeSet := false, card := .still
      freeze := if s.output.safeSet && !s.safeLine then none else s.output.freeze } :=
  State.raiseIf_output _ _ _

/-- Turning SAFE_SET OFF leaves safe where it was ON and the SAFE line is released. -/
theorem State.safeChanged_off (s : State) :
    (s.withOutput { s.output with safeSet := false, card := .still }).safeChanged s.safeHolds =
      if (s.output.safeSet && !s.safeLine) = true ∧ s.safeTurnedOff.output.mode = .dormant then s.safeTurnedOff.refill
      else s.safeTurnedOff := by
  unfold State.safeChanged State.safeTurnedOff State.safeHolds
  cases hline : s.safeLine with
  | true => simp [hline, State.withOutput]
  | false =>
    cases hset : s.output.safeSet with
    | true => simp [hline, State.leaveSafe, State.refillIfDormant, State.withOutput]
    | false => simp [hline, State.withOutput]

theorem State.raiseIf_withOutput (s : State) (b : Bool) (e : Notice) (x : OutputStage) :
    (s.raiseIf b e).withOutput x = (s.withOutput x).raiseIf b e := by
  cases b <;> rfl

/-- The Output Stage's part: SAFE_SET OFF, STILL and the line-up flag OFF, with the leaving of safe that follows; in
DORMANT the fill is chosen where safe is left or the line-up flag was ON (R155). -/
theorem State.resetOutput_eq (s : State) :
    let left := s.output.safeSet && !s.safeLine
    let v := State.raiseIf { s with output := { s.output with
      safeSet := false, card := .still, lineup := false, freeze := if left then none else s.output.freeze } }
      left .safeLeft
    s.resetOutput = if s.output.mode = .dormant ∧ (left = true ∨ s.output.lineup = true) then v.refill else v := by
  intro left v
  have hv : s.safeTurnedOff.withOutput { s.safeTurnedOff.output with lineup := false } = v := by
    rw [State.safeTurnedOff_output]
    exact State.raiseIf_withOutput _ _ _ _
  unfold State.resetOutput
  rw [State.safeChanged_off, State.setLineup_after_refill, hv]
  simp only [State.safeTurnedOff_output, ne_eq, Bool.not_eq_false, left]

section Timing

variable {x : FrameTiming}

theorem State.resetTiming_dormant (hx : s.timing = x) (h : s.output.mode = .dormant) :
    s.resetTiming = s.withTiming { x with goodIntervals := 0, holdover := 0, glitches := 0, runts := 0 } := by
  subst hx
  exact if_pos h

theorem State.resetTiming_free (hx : s.timing = x) (h : s.output.mode ≠ .dormant)
    (hlock : x.lock = .freeRun ∨ x.lock = .acquiring) :
    s.resetTiming = s.withTiming { x with
      goodIntervals := 0, holdover := 0, glitches := 0, runts := 0, lock := .freeRun,
      measured := nominalPeriod x.rate, lastPulse := none } := by
  subst hx
  refine (if_neg h).trans (if_neg ?_)
  rcases hlock with hlock | hlock
  · simp [hlock]
  · simp [hlock]

/-- Out of LOCKED or HOLDOVER the next frame start is due one nominal period after the last (log entry 15). -/
theorem State.resetTiming_locked (hx : s.timing = x) (h : s.output.mode ≠ .dormant)
    (hlock : x.lock = .locked ∨ x.lock = .holdover) :
    s.resetTiming = (s.withTiming { x with
      goodIntervals := 0, holdover := 0, glitches := 0, runts := 0, lock := .freeRun,
      measured := nominalPeriod x.rate, lastPulse := none,
      nextDue := some (s.duePeriodAfterLast x.rate) }).makeOverdue := by
  subst hx
  exact (if_neg h).trans (if_pos hlock)

end Timing

/-- Settles O60: the Output Stage is reset to `v`, filled again or not, and then Frame Timing. -/
theorem playoutResetRestores : Obligations.PlayoutResetRestores := by
  intro t s hr u left cleared v counts nominal free due run
  have hrun {w : State} (h : State.resetTiming
      (if s.output.mode = .dormant ∧ (left = true ∨ s.output.lineup = true) then v.refill else v) = w) :
      run = .next (w.answered .pp .done []) := by
    let zeroed : State := (u.resetPort .pp).withComposer { s.composer with
      governor := Governor.initial, late := 0, lateFrames := 0, dropped := 0 }
    have hout := congrArg State.resetTiming zeroed.resetOutput_eq
    exact unlessFrozen_answered hr (Prod.ext (hout.trans h) rfl)
  have hnow : v.now = u.now := State.raiseIf_now _ _ _
  have htiming : v.timing = u.timing := State.raiseIf_timing _ _ _
  have houtput : v.output = cleared.output := State.raiseIf_output _ _ _
  have hmode : v.output.mode = s.output.mode := by rw [houtput]
  refine ⟨fun hm => hrun ?_, fun hm => ?_⟩
  · simp only [hm, true_and]
    refine State.resetTiming_dormant ?_ ?_
    · split
      · exact htiming
      · exact htiming
    · split
      · exact hmode.trans hm
      · exact hmode.trans hm
  · have hv : v.output.mode ≠ .dormant := ne_of_eq_of_ne hmode hm
    simp only [hm, false_and, if_false] at hrun
    refine ⟨fun hlock => hrun (State.resetTiming_free (x := u.timing) htiming hv hlock), fun hlock => ?_⟩
    have hdue : v.duePeriodAfterLast u.timing.rate = u.duePeriodAfterLast u.timing.rate := by
      unfold State.duePeriodAfterLast
      rw [htiming, hnow]
    have hreset : v.resetTiming = (v.withTiming { free with nextDue := some due }).makeOverdue := by
      rw [State.resetTiming_locked htiming hv hlock, hdue]
      rfl
    refine ⟨fun h => hrun ?_, fun h => hrun ?_⟩
    · rw [hreset]
      exact State.makeOverdue_waits rfl (hnow.trans_le h)
    · rw [hreset, ← hnow]
      exact State.makeOverdue_passed rfl (h.trans_eq hnow.symm)

end Sys2Proof.Machine
end

section
/-! PROOFS. Every operation keeps Frame Timing sound (O19): a frame start, the pulses and the timebase, the requests,
the link ports, and then each command. -/

namespace Sys2Proof.Machine

variable {s t : State}

/-! ### Frame Timing and the mode alone decide it (R124 to R134) -/

theorem State.TimingSound.congr (h : s.TimingSound) (ht : t.timing = s.timing)
    (hm : t.output.mode = s.output.mode) : t.TimingSound := by
  obtain ⟨due, dormant, measured, good, holdover, pulse, frameCount, glitches, runts⟩ := h
  constructor
  all_goals
    simp only [ht, hm]
    assumption

theorem State.TimingSound.at (h : s.TimingSound) (n : Nat) : (s.at n).TimingSound := h.congr rfl rfl

theorem State.TimingSound.raise (h : s.TimingSound) (e : Notice) : (s.raise e).TimingSound := h.congr rfl rfl

theorem State.TimingSound.modifyPort (h : s.TimingSound) (p : Port) (f : PortState → PortState) :
    (s.modifyPort p f).TimingSound := h.congr rfl rfl

/-- Outside FREE_RUN the mode is not DORMANT (R134). -/
theorem State.TimingSound.awake (h : s.TimingSound) (hlock : s.timing.lock ≠ .freeRun) :
    s.output.mode ≠ .dormant := fun hm =>
  have ⟨hfree, _⟩ := h.dormant hm
  hlock hfree

/-- Outside LOCKED and DORMANT an internal frame start is due (R126, R134). -/
theorem State.TimingSound.isDue (h : s.TimingSound) (hlock : s.timing.lock ≠ .locked)
    (hm : s.output.mode ≠ .dormant) : s.timing.nextDue ≠ none := fun hnone =>
  (h.due.1 hnone).elim hlock hm

theorem State.TimingSound.of_due (h : s.TimingSound) (hd : s.timing.nextDue ≠ none) :
    s.timing.lock ≠ .locked ∧ s.output.mode ≠ .dormant :=
  not_or.1 fun hstopped => hd (h.due.2 hstopped)

theorem State.TimingSound.holdover_zero (h : s.TimingSound) (hlock : s.timing.lock ≠ .holdover) :
    s.timing.holdover = 0 :=
  have ⟨_, hzero⟩ := h.holdover
  hzero.2 hlock

/-- The nominal period is a good interval. -/
theorem goodInterval_nominal (r : Rate) : goodInterval r (nominalPeriod r) = true := by
  cases r <;> decide

/-! ### Frame starts (R124, R126, R131) -/

theorem State.TimingSound.frameStart (h : s.TimingSound) (n : Nat) : (s.frameStart n).TimingSound := by
  have hcount : (s.withTiming { s.timing with
      frameCount := (s.timing.frameCount + 1) % 4294967296, lastFrameStart := some n, started := true }).TimingSound :=
    { h with frameCount := Nat.mod_lt _ (by decide) }
  exact hcount.congr (s.frameStart_timing n) (s.frameStart_mode n)

/-- Another due time for the internal frame start that is due. -/
theorem State.TimingSound.reschedule (h : s.TimingSound) (hd : s.timing.nextDue ≠ none) (n : Nat) :
    (s.withTiming { s.timing with nextDue := some n }).TimingSound :=
  { h with due := iff_of_false nofun fun hstopped => hd (h.due.2 hstopped) }

theorem State.TimingSound.makeOverdue (h : s.TimingSound) : s.makeOverdue.TimingSound := by
  cases hd : s.timing.nextDue with
  | none =>
    unfold State.makeOverdue
    rw [hd]
    exact h
  | some d =>
    by_cases hpast : d < s.now
    · rw [State.makeOverdue_passed hd hpast]
      exact (h.reschedule (by simp [hd]) _).frameStart _
    · rw [State.makeOverdue_waits hd (Nat.not_lt.1 hpast)]
      exact h

theorem State.TimingSound.internalFrameStart (h : s.TimingSound) (hd : s.timing.nextDue ≠ none) (d : Nat) :
    (s.internalFrameStart d).TimingSound := by
  obtain ⟨hcount, -⟩ := h.holdover
  obtain ⟨-, hawake⟩ := h.of_due hd
  by_cases hlock : s.timing.lock = .holdover
  · rcases Nat.lt_or_eq_of_le hcount with hlt | heq
    · rw [State.internalFrameStart_holdover hlock hlt]
      have hnext : ((s.at d).withTiming { s.timing with
          holdover := s.timing.holdover + 1, nextDue := some (d + s.timing.measured) }).TimingSound :=
        { (h.at d).reschedule hd (d + s.timing.measured) with
          dormant := fun hm => absurd hm hawake
          holdover := ⟨hlt, iff_of_false (Nat.succ_ne_zero _) (not_not.2 hlock)⟩ }
      exact hnext.frameStart d
    · rw [State.internalFrameStart_ends hlock heq]
      have hends : ((s.at d).withTiming { s.timing with
          lock := .freeRun, holdover := 0, nextDue := some (d + nominalPeriod s.timing.rate) }).TimingSound :=
        { h.at d with
          due := iff_of_false nofun (by simpa using hawake)
          dormant := fun hm => absurd hm hawake
          good := ⟨h.good.1, nofun⟩
          holdover := ⟨Nat.zero_le _, iff_of_true rfl nofun⟩
          pulse := by simp }
      exact (hends.raise _).frameStart d
  · rw [State.internalFrameStart_running hlock]
    exact ((h.at d).reschedule hd _).frameStart d

/-! ### Pulses (R125 to R131) -/

theorem State.TimingSound.firstPulse (h : s.TimingSound) (hlock : s.timing.lock ≠ .locked)
    (hm : s.output.mode ≠ .dormant) : s.firstPulse.TimingSound :=
  { h with
    due := iff_of_false (h.isDue hlock hm) (by simpa [State.firstPulse] using hm)
    dormant := fun hd => absurd hd hm
    good := ⟨Nat.zero_le _, fun _ => Nat.zero_le _⟩
    holdover := ⟨Nat.zero_le _, iff_of_true rfl nofun⟩
    pulse := fun _ => rfl }

theorem State.TimingSound.lockingPulse (h : s.TimingSound) (hlock : s.timing.lock = .acquiring) {d : Nat}
    (hd : goodInterval s.timing.rate d = true) : (s.lockingPulse d).TimingSound := by
  have hawake : s.output.mode ≠ .dormant := h.awake (by simp [hlock])
  have hlocked (k : Nat) (hk : k ≤ 65535) : (s.withTiming { s.timing with
      lock := .locked, measured := d, goodIntervals := s.timing.goodIntervals + 1, lastPulse := some s.now,
      nextDue := none, runts := k }).TimingSound :=
    { h with
      due := iff_of_true rfl (.inl rfl)
      dormant := fun hm => absurd hm hawake
      measured := hd
      good := ⟨Nat.succ_le_succ (h.good.2 hlock), nofun⟩
      holdover := ⟨h.holdover.1, iff_of_true (h.holdover_zero (by simp [hlock])) nofun⟩
      pulse := fun _ => rfl
      runts := hk }
  unfold State.lockingPulse
  dsimp only
  split
  · exact ((hlocked _ (Nat.min_le_left _ _)).raise .refLocked).congr rfl rfl
  · exact ((hlocked _ h.runts).raise _).frameStart _

theorem State.TimingSound.acquiringPulse (h : s.TimingSound) (hlock : s.timing.lock = .acquiring) (d : Nat) :
    (s.acquiringPulse d).TimingSound := by
  have hcount := h.good.2 hlock
  have hawake : s.output.mode ≠ .dormant := h.awake (by simp [hlock])
  cases hd : goodInterval s.timing.rate d with
  | false =>
    rw [State.acquiringPulse_bad hd]
    exact { h with
      dormant := fun hm => absurd hm hawake
      good := ⟨Nat.zero_le _, fun _ => Nat.zero_le _⟩
      pulse := fun _ => rfl }
  | true =>
    rcases Nat.lt_or_eq_of_le hcount with hlt | heq
    · rw [State.acquiringPulse_counts hd hlt]
      exact { h with
        dormant := fun hm => absurd hm hawake
        measured := hd
        good := ⟨Nat.le_succ_of_le hlt, fun _ => hlt⟩
        pulse := fun _ => rfl }
    · rw [State.acquiringPulse_locks hd heq]
      exact h.lockingPulse hlock hd

theorem State.TimingSound.lockedPulse (h : s.TimingSound) (d : Nat) : (s.lockedPulse d).TimingSound := by
  by_cases hglitch : d < halfPeriod s.timing.rate
  · rw [State.lockedPulse_glitch hglitch]
    exact { h with glitches := Nat.min_le_left _ _ }
  · have hd := Nat.not_lt.1 hglitch
    have htaken (k : Nat) (hk : goodInterval s.timing.rate k = true) :
        (s.withTiming { s.timing with lastPulse := some s.now, measured := k }).TimingSound :=
      { h with
        measured := hk
        pulse := fun _ => rfl }
    cases hgood : goodInterval s.timing.rate d with
    | true =>
      rw [State.lockedPulse_good hd hgood]
      exact (htaken d hgood).frameStart _
    | false =>
      rw [State.lockedPulse_bad hd hgood]
      exact (htaken _ h.measured).frameStart _

theorem State.TimingSound.afterPulse (h : s.TimingSound) (hm : s.output.mode ≠ .dormant) : s.pulse.TimingSound := by
  cases hlock : s.timing.lock with
  | freeRun =>
    rw [State.pulse_freeRun hlock]
    exact h.firstPulse (by simp [hlock]) hm
  | acquiring =>
    obtain ⟨l, hl⟩ := Option.isSome_iff_exists.1 (h.pulse (.inl hlock))
    rw [State.pulse_acquiring hlock hl]
    exact h.acquiringPulse hlock _
  | locked =>
    obtain ⟨l, hl⟩ := Option.isSome_iff_exists.1 (h.pulse (.inr hlock))
    rw [State.pulse_locked hlock hl]
    exact h.lockedPulse _
  | holdover =>
    have hunlocked : s.timing.lock ≠ .locked := by simp [hlock]
    rw [State.pulse_holdover hlock]
    exact ((h.firstPulse hunlocked hm).reschedule (h.isDue hunlocked hm) _).makeOverdue

/-! ### Silences (R127, R130) -/

theorem State.TimingSound.acquiringSilence (h : s.TimingSound) (hlock : s.timing.lock = .acquiring) (n : Nat) :
    (((s.at n).withTiming { s.timing with lock := .freeRun, goodIntervals := 0 }).raise .freeRun).TimingSound := by
  have hawake : s.output.mode ≠ .dormant := h.awake (by simp [hlock])
  have hfree : ((s.at n).withTiming { s.timing with lock := .freeRun, goodIntervals := 0 }).TimingSound :=
    { h.at n with
      due := iff_of_false (h.isDue (by simp [hlock]) hawake) (by simpa using hawake)
      dormant := fun hm => absurd hm hawake
      good := ⟨Nat.zero_le _, nofun⟩
      holdover := ⟨h.holdover.1, iff_of_true (h.holdover_zero (by simp [hlock])) nofun⟩
      pulse := by simp }
  exact hfree.raise _

theorem State.TimingSound.refLost (h : s.TimingSound) (hlock : s.timing.lock = .locked) (n : Nat) :
    ((((s.at n).withTiming { s.timing with
      lock := .holdover, holdover := 1, nextDue := some (n + s.timing.measured) }).raise
        .refLost).frameStart n).TimingSound := by
  have hawake : s.output.mode ≠ .dormant := h.awake (by simp [hlock])
  have hheld : ((s.at n).withTiming { s.timing with
      lock := .holdover, holdover := 1, nextDue := some (n + s.timing.measured) }).TimingSound :=
    { h.at n with
      due := iff_of_false nofun (by simpa using hawake)
      dormant := fun hm => absurd hm hawake
      good := ⟨h.good.1, nofun⟩
      holdover := ⟨Nat.le_of_ble_eq_true rfl, iff_of_false nofun (by simp)⟩
      pulse := by simp }
  exact (hheld.raise _).frameStart _

theorem State.TimingSound.nextFrameStart (h : s.TimingSound) (n : Nat) :
    ((s.nextFrameStart n).getD s).TimingSound := by
  unfold State.nextFrameStart
  split
  · next hlock =>
    have hawake : s.output.mode ≠ .dormant := h.awake (by simp [hlock])
    split
    · split
      · exact h
      · exact (h.at n).afterPulse hawake
    · exact h
  · cases hd : s.timing.nextDue with
    | none => exact h
    | some d => exact h.internalFrameStart (by simp [hd]) d

/-! ### REFERENCE_SET, the modes and PLAYOUT_RESET (R133, R134, R183, R184) -/

theorem State.referenceLock_ne (s : State) (r : Rate) :
    s.referenceLock r ≠ .locked ∧ s.referenceLock r ≠ .holdover := by
  unfold State.referenceLock
  cases s.recentPulse r with
  | true => exact ⟨nofun, nofun⟩
  | false => exact ⟨nofun, nofun⟩

/-- REFERENCE_SET goes to ACQUIRING only after a pulse. -/
theorem State.lastPulse_of_referenceLock {r : Rate} (h : s.referenceLock r = .acquiring) :
    s.timing.lastPulse.isSome = true := by
  rw [State.referenceLock_eq] at h
  cases hl : s.timing.lastPulse with
  | none => simp [hl] at h
  | some l => rfl

theorem State.TimingSound.setReference (h : s.TimingSound) (r : Rate) : (s.setReference r).TimingSound := by
  by_cases hm : s.output.mode = .dormant
  · obtain ⟨hlock, -, -⟩ := h.dormant hm
    rw [State.setReference_dormant hm]
    exact { h with
      dormant := fun _ => ⟨hlock, rfl, rfl⟩
      measured := goodInterval_nominal r
      good := ⟨Nat.zero_le _, fun _ => Nat.zero_le _⟩
      holdover := ⟨Nat.zero_le _, iff_of_true rfl (by simp [hlock])⟩ }
  · obtain ⟨hunlocked, hfree⟩ := s.referenceLock_ne r
    rw [State.setReference_running hm]
    exact State.TimingSound.makeOverdue { h with
      due := iff_of_false nofun (not_or.2 ⟨hunlocked, hm⟩)
      dormant := fun hd => absurd hd hm
      measured := goodInterval_nominal r
      good := ⟨Nat.zero_le _, fun _ => Nat.zero_le _⟩
      holdover := ⟨Nat.zero_le _, iff_of_true rfl hfree⟩
      pulse := fun hk => hk.elim State.lastPulse_of_referenceLock fun hl => absurd hl hunlocked }

theorem referenceSet_timingSound (h : s.TimingSound) (n : Nat) : (referenceSet n s).1.TimingSound := by
  unfold referenceSet
  split
  · exact h
  · exact h.setReference _

theorem State.TimingSound.enterDormant (h : s.TimingSound) : s.enterDormant.TimingSound :=
  { h with
    due := iff_of_true rfl (.inr rfl)
    dormant := fun _ => ⟨rfl, rfl, rfl⟩
    good := ⟨Nat.zero_le _, nofun⟩
    holdover := ⟨Nat.zero_le _, iff_of_true rfl nofun⟩
    pulse := nofun }

/-- Out of DORMANT the counts are 0 already, and a frame start falls due one period on. -/
theorem State.TimingSound.leaveDormant (h : s.TimingSound) (hs : s.output.mode = .dormant) {m : Mode}
    (hm : m ≠ .dormant) : (s.leaveDormant m).TimingSound := by
  obtain ⟨-, -, hzero⟩ := h.dormant hs
  have hstarted : State.TimingSound { s with
      timing := { s.timing with
        lock := .freeRun, nextDue := some (s.now + nominalPeriod s.timing.rate), started := false }
      output := { s.output with mode := m, lineup := if m = .onAir then false else s.output.lineup } } :=
    { h with
      due := iff_of_false nofun (not_or.2 ⟨nofun, hm⟩)
      dormant := fun hd => absurd hd hm
      good := ⟨h.good.1, nofun⟩
      holdover := ⟨h.holdover.1, iff_of_true hzero nofun⟩
      pulse := by simp }
  rw [State.leaveDormant_eq]
  exact hstarted.congr (by simp) (by simp [State.refillKeyed_mode])

theorem State.TimingSound.changeMode (h : s.TimingSound) (m : Mode) : (s.changeMode m).TimingSound := by
  by_cases hself : m = s.output.mode
  · rw [State.changeMode_self hself]
    exact h
  · by_cases hm : m = .dormant
    · subst hm
      rw [State.changeMode_dormant hself]
      exact h.enterDormant
    · by_cases hs : s.output.mode = .dormant
      · rw [State.changeMode_leave hm hs]
        exact h.leaveDormant hs hm
      · rw [State.changeMode_running hself hm hs]
        exact { h with
          due := h.due.trans (or_congr_right (iff_of_false hs hm))
          dormant := fun hd => absurd hd hm }

theorem outputMode_timingSound (h : s.TimingSound) (n : Nat) : (outputMode n s).1.TimingSound := by
  unfold outputMode
  split
  · exact h
  · exact h.changeMode _

theorem State.TimingSound.wakingPulse (h : s.TimingSound) (hs : s.output.mode = .dormant) :
    s.wakingPulse.TimingSound :=
  have htaken : (s.withTiming { s.timing with lastPulse := some s.now }).TimingSound :=
    { h with pulse := fun _ => rfl }
  htaken.leaveDormant hs nofun

theorem State.TimingSound.resetTiming (h : s.TimingSound) : s.resetTiming.TimingSound := by
  by_cases hm : s.output.mode = .dormant
  · obtain ⟨hlock, -, -⟩ := h.dormant hm
    rw [State.resetTiming_dormant rfl hm]
    exact { h with
      dormant := fun _ => ⟨hlock, rfl, rfl⟩
      good := ⟨Nat.zero_le _, fun _ => Nat.zero_le _⟩
      holdover := ⟨Nat.zero_le _, iff_of_true rfl (by simp [hlock])⟩
      glitches := Nat.zero_le _
      runts := Nat.zero_le _ }
  · have hfree (due : Option Nat) (hdue : due ≠ none) : (s.withTiming { s.timing with
        goodIntervals := 0, holdover := 0, glitches := 0, runts := 0, lock := .freeRun,
        measured := nominalPeriod s.timing.rate, lastPulse := none, nextDue := due }).TimingSound :=
      { h with
        due := iff_of_false hdue (by simpa using hm)
        dormant := fun hd => absurd hd hm
        measured := goodInterval_nominal _
        good := ⟨Nat.zero_le _, nofun⟩
        holdover := ⟨Nat.zero_le _, iff_of_true rfl nofun⟩
        pulse := by simp
        glitches := Nat.zero_le _
        runts := Nat.zero_le _ }
    by_cases hlock : s.timing.lock = .locked ∨ s.timing.lock = .holdover
    · rw [State.resetTiming_locked rfl hm hlock]
      exact (hfree (some (s.duePeriodAfterLast s.timing.rate)) nofun).makeOverdue
    · obtain ⟨hunlocked, -⟩ := not_or.1 hlock
      have hrun : s.timing.lock = .freeRun ∨ s.timing.lock = .acquiring := by
        cases hk : s.timing.lock with
        | freeRun => exact .inl rfl
        | acquiring => exact .inr rfl
        | locked => exact absurd (.inl hk) hlock
        | holdover => exact absurd (.inr hk) hlock
      rw [State.resetTiming_free rfl hm hrun]
      exact hfree _ (h.isDue hunlocked hm)

theorem State.TimingSound.resetOutput (h : s.TimingSound) : s.resetOutput.TimingSound :=
  h.congr (by simp) (congrArg Settings.mode s.resetOutput_plays.settings)

theorem playoutReset_timingSound (h : s.TimingSound) : (playoutReset s).1.TimingSound := by
  have hzeroed : ((s.resetPort .pp).withComposer { s.composer with
      governor := Governor.initial, late := 0, lateFrames := 0, dropped := 0 }).TimingSound := h.congr rfl rfl
  exact hzeroed.resetOutput.resetTiming

/-! ### Requests and the link ports -/

theorem handle_timingSound (h : s.TimingSound) (p : Port) (r : Request) : (handle p r s).1.TimingSound := by
  cases r with
  | referenceSet n => exact referenceSet_timingSound h n
  | outputMode n => exact outputMode_timingSound h n
  | playoutReset => exact playoutReset_timingSound h
  | _ => exact h.congr (by simp [handle]) (handle_mode s p _ nofun)

theorem takeFrame_timingSound (h : s.TimingSound) (p : Port) (f : LinkFrame) : (takeFrame p f s).1.TimingSound := by
  unfold takeFrame
  split
  · exact h
  · split
    · split
      · exact h
      · exact handle_timingSound h p _
    · exact h

theorem State.TimingSound.serve (h : s.TimingSound) (p : Port) (f : LinkFrame) : (s.serve p f).TimingSound :=
  (takeFrame_timingSound h p f).congr rfl rfl

theorem State.TimingSound.badCheck (h : s.TimingSound) (p : Port) : (s.badCheck p).TimingSound :=
  h.congr (by simp) (by simp)

theorem State.TimingSound.takeOrBuffer (h : s.TimingSound) (p : Port) (f : LinkFrame) :
    (s.takeOrBuffer p f).TimingSound := by
  unfold State.takeOrBuffer
  split
  · exact h.serve p f
  · exact h.modifyPort p _

theorem State.TimingSound.goodFrame (h : s.TimingSound) (p : Port) (f : LinkFrame) :
    (s.goodFrame p f).TimingSound := by
  have hgood : s.goodIngestFrame.TimingSound := h.congr (by simp) (by simp)
  rw [State.goodFrame_eq]
  split
  · exact hgood.takeOrBuffer p f
  · exact h.takeOrBuffer p f

theorem State.TimingSound.receive (h : s.TimingSound) (p : Port) (f : LinkFrame) : (s.receive p f).TimingSound := by
  have hunt := h.modifyPort p fun x => { x with receiver := .hunting }
  unfold State.receive
  dsimp only
  split
  · exact hunt.badCheck p
  · split
    · exact hunt.modifyPort p _
    · split
      · exact hunt.goodFrame p f
      · exact hunt.badCheck p

theorem State.TimingSound.endReply (h : s.TimingSound) (p : Port) : (s.endReply p).TimingSound := by
  unfold State.endReply
  dsimp only
  split
  · exact h
  · exact h.modifyPort p _
  · exact (h.modifyPort p _).serve p _

/-! ### Commands and steps -/

theorem State.TimingSound.passSeconds (h : s.TimingSound) (n : Nat) : (s.passSeconds n).TimingSound := { h with }

theorem State.TimingSound.endWindow (h : s.TimingSound) : s.endWindow.TimingSound := h.congr (by simp) (by simp)

theorem State.TimingSound.expireStale (h : s.TimingSound) : s.expireStale.TimingSound := h.congr (by simp) (by simp)

theorem State.TimingSound.tick (h : s.TimingSound) : s.tick.TimingSound := by
  have hpass := h.passSeconds 1
  unfold State.tick
  dsimp only
  split
  · exact h
  · split
    · split
      · split
        · exact hpass.endWindow.expireStale
        · exact hpass.expireStale.endWindow
      · exact hpass.endWindow
    · split
      · exact hpass.expireStale
      · exact hpass

/-- A restart puts Frame Timing at its initial values, in STANDBY (R124, R186). -/
theorem State.restart_timingSound (s : State) (c : ResetCause) : (s.restart c).TimingSound where
  due := iff_of_false nofun nofun
  dormant := nofun
  measured := goodInterval_nominal .r25
  good := ⟨Nat.zero_le _, nofun⟩
  holdover := ⟨Nat.zero_le _, iff_of_true rfl nofun⟩
  pulse := nofun
  frameCount := Nat.zero_lt_succ _
  glitches := Nat.zero_le _
  runts := Nat.zero_le _

theorem unlessFrozen_timingSound {u : State} (h : s.TimingSound) (ht : t.TimingSound)
    (hu : unlessFrozen s t = .next u) : u.TimingSound := by
  rcases unlessFrozen_next hu with rfl | rfl
  · exact h
  · exact ht

theorem exec_timingSound {c : Instr} (h : s.TimingSound) (hc : exec c s = .next t) : t.TimingSound := by
  cases hr : c.request? with
  | some r =>
    obtain ⟨p, n, hp⟩ := exec_request s hr
    rw [hp] at hc
    exact unlessFrozen_timingSound h ((handle_timingSound (h.at n) p r).modifyPort p _) hc
  | none =>
    cases c with
    | powerOn n =>
      cases hc
      split
      · exact (h.at n).congr rfl rfl
      · exact State.restart_timingSound _ _
    | resetLineRelease n =>
      cases hc
      split
      · exact State.restart_timingSound _ _
      · exact h
    | resetLineAssertion =>
      refine unlessFrozen_timingSound h ?_ hc
      exact h.congr rfl rfl
    | linkFrameReceived p f n => exact unlessFrozen_timingSound h ((h.at n).receive p f) hc
    | replySent p n => exact unlessFrozen_timingSound h ((h.at n).endReply p) hc
    | framingError p len =>
      refine unlessFrozen_timingSound h ?_ hc
      split
      · exact h.congr (by simp) (by simp)
      · exact h
    | frameGapTimeout p => exact unlessFrozen_timingSound h (h.congr (by simp) (by simp)) hc
    | startOctet p => exact unlessFrozen_timingSound h (h.modifyPort p _) hc
    | drainCompletion | compositionCompletion =>
      refine unlessFrozen_timingSound h ?_ hc
      split
      · exact h.congr (by simp) (by simp)
      · exact h
    | windowEnd =>
      refine unlessFrozen_timingSound h ?_ hc
      split
      · exact (h.passSeconds _).endWindow
      · exact h
    | staleTimerExpiry =>
      refine unlessFrozen_timingSound h ?_ hc
      split
      · exact (h.passSeconds _).expireStale
      · exact h
    | windowCutCompletion place => exact unlessFrozen_timingSound h (h.congr (by simp) (by simp)) hc
    | frefPulse n =>
      refine unlessFrozen_timingSound h ?_ hc
      split
      · next hm => exact (h.at n).wakingPulse hm
      · next hm => exact (h.at n).afterPulse hm
    | internalFrameStart =>
      refine unlessFrozen_timingSound h ?_ hc
      split
      · next d hd => exact h.internalFrameStart (by simp [hd]) d
      · exact h
    | holdoverEnd =>
      refine unlessFrozen_timingSound h ?_ hc
      split
      · next d hd =>
        split
        · exact h.internalFrameStart (by simp [hd]) d
        · exact h
      · exact h
    | acquiringSilenceExpiry =>
      refine unlessFrozen_timingSound h ?_ hc
      split
      · next hlock => exact h.acquiringSilence hlock _
      · exact h
    | refLost =>
      refine unlessFrozen_timingSound h ?_ hc
      split
      · next hlock => exact h.refLost hlock _
      · exact h
    | lateFrames n | detailRecovered n =>
      refine unlessFrozen_timingSound h ?_ hc
      split
      · exact h.nextFrameStart n
      · exact h
    | safeLineChange b =>
      cases hc
      split
      · exact h.congr rfl rfl
      · exact h.congr (by simp) (congrArg Settings.mode (State.safeChanged_plays _ _).settings)
    | _ => cases hr

/-- Settles O19: a step is a tick of the seconds timebase or a command, and each keeps Frame Timing sound. -/
theorem timingStaysSound : Obligations.TimingStaysSound := by
  intro s t h hstep
  cases hp : s.pending with
  | nil =>
    rw [step_nil s hp] at hstep
    cases hstep
    exact h.tick
  | cons c rest =>
    rw [step_cons s hp] at hstep
    exact exec_timingSound (s := s.withPending rest) (h.congr rfl rfl) hstep

end Sys2Proof.Machine
end

section
/-! PROOFS. What the operations that raise notices do to the ports: they set flags of subscribed groups, and leave
everything else of a port as it stands (R176). -/

namespace Sys2Proof.Machine

/-! ### A port without the flags that raising sets -/

/-- A port without the flags of its subscribed groups. -/
def PortState.masked (x : PortState) : PortState :=
  { x with record := x.record.clearGroups fun g => decide (x.mask.get g ≠ .off) }

def Ports.masked (ps : Ports) : Ports := ps.map PortState.masked

theorem PortState.masked_get (x : PortState) (e : Notice) :
    x.masked.record.get e = (decide (x.mask.get (noticeGroup e) = .off) && x.record.get e) := by
  simp [PortState.masked]

/-- Raising sets at most a flag of a subscribed group. -/
theorem PortState.masked_raise (x : PortState) (e : Notice) : (x.raise e).masked = x.masked := by
  have record : (x.raise e).masked.record = x.masked.record := by
    refine NoticeRecord.ext_get fun k => ?_
    rw [PortState.masked_get, PortState.masked_get, PortState.raise, NoticeRecord.get_raise]
    by_cases hk : k = e
    · subst hk
      by_cases hoff : x.mask.get (noticeGroup k) = .off <;> simp [hoff]
    · simp [hk]
  exact congrArg (fun r => { x with record := r }) record

@[simp] theorem Ports.masked_raise (ps : Ports) (e : Notice) : (ps.map (PortState.raise e)).masked = ps.masked := by
  simp only [Ports.masked, Ports.map, PortState.masked_raise]

theorem Ports.mask_of_masked {ps qs : Ports} (h : ps.masked = qs.masked) (p : Port) :
    (ps.get p).mask = (qs.get p).mask := by
  simpa [Ports.masked, PortState.masked] using congrArg (fun rs => (rs.get p).mask) h

variable (s : State)

@[simp] theorem State.masked_raiseIf (b : Bool) (e : Notice) : (s.raiseIf b e).ports.masked = s.ports.masked := by
  cases b
  · rfl
  · exact Ports.masked_raise _ e

/-! ### The Feed Monitor and forecast ingest -/

@[simp] theorem State.masked_erroredRecord : s.erroredRecord.ports.masked = s.ports.masked := by
  unfold State.erroredRecord; dsimp only; (repeat' split) <;> simp

@[simp] theorem State.masked_endWindow : s.endWindow.ports.masked = s.ports.masked := by
  unfold State.endWindow; dsimp only; (repeat' split) <;> simp

@[simp] theorem State.masked_expireStale : s.expireStale.ports.masked = s.ports.masked := by
  unfold State.expireStale; dsimp only; split <;> simp

@[simp] theorem State.masked_goodIngestFrame : s.goodIngestFrame.ports.masked = s.ports.masked := by
  unfold State.goodIngestFrame; dsimp only; split <;> simp

@[simp] theorem State.masked_restartFeed : s.restartFeed.ports.masked = s.ports.masked := by
  unfold State.restartFeed; dsimp only; split <;> simp

@[simp] theorem State.masked_tick : s.tick.ports.masked = s.ports.masked := by
  unfold State.tick; dsimp only; (repeat' split) <;> simp

@[simp] theorem State.masked_judgeClose : s.judgeClose.ports.masked = s.ports.masked := by
  unfold State.judgeClose State.publishLoad; dsimp only; (repeat' split) <;> simp

@[simp] theorem State.masked_takeHead : s.takeHead.ports.masked = s.ports.masked := by
  unfold State.takeHead; (repeat' split) <;> simp

@[simp] theorem State.masked_completeDrain (b : CellBlock) : (s.completeDrain b).ports.masked = s.ports.masked := by
  unfold State.completeDrain; (repeat' split) <;> simp

/-! ### The show -/

@[simp] theorem State.masked_answerNext : s.answerNext.ports.masked = s.ports.masked := by
  unfold State.answerNext; split <;> simp

@[simp] theorem State.masked_answerAwaitingNext : s.answerAwaitingNext.ports.masked = s.ports.masked := by
  unfold State.answerAwaitingNext; split <;> simp

@[simp] theorem State.masked_completeCut (p : ContextPlace) : (s.completeCut p).ports.masked = s.ports.masked := by
  unfold State.completeCut; (repeat' split) <;> simp

@[simp] theorem State.masked_buildNext : s.buildNext.ports.masked = s.ports.masked := by
  unfold State.buildNext; (repeat' split) <;> simp

@[simp] theorem State.masked_takeNext (x : Context) : (s.takeNext x).ports.masked = s.ports.masked := by
  simp [State.takeNext]

/-! ### The animation of LIVE -/

@[simp] theorem State.masked_endHoldLast (x : Context) : (s.endHoldLast x).ports.masked = s.ports.masked :=
  Ports.masked_raise _ _

@[simp] theorem State.masked_advanceTake : s.advanceTake.ports.masked = s.ports.masked := by
  unfold State.advanceTake; split <;> simp

@[simp] theorem State.masked_endAction (x : Context) : (s.endAction x).ports.masked = s.ports.masked := by
  unfold State.endAction State.endAdvance; (repeat' split) <;> simp

@[simp] theorem State.masked_stepBoundary (x : Context) (a : SlotRef) :
    (s.stepBoundary x a).ports.masked = s.ports.masked := by
  unfold State.stepBoundary; split <;> simp

@[simp] theorem State.masked_endedCheck (x : Context) (a : SlotRef) :
    (s.endedCheck x a).ports.masked = s.ports.masked := by
  unfold State.endedCheck; (repeat' split) <;> simp

@[simp] theorem State.masked_advance : s.advance.ports.masked = s.ports.masked := by
  unfold State.advance State.advanceLive; (repeat' split) <;> simp

/-! ### Frame starts -/

@[simp] theorem State.masked_snapshotArrives (x : Snapshot) :
    (s.snapshotArrives x).ports.masked = s.ports.masked := by
  by_cases h : s.composer.composition = none
  · simp [State.snapshotArrives_idle h]
  · simp [State.snapshotArrives_busy h]

@[simp] theorem State.masked_sequence : s.sequence.ports.masked = s.ports.masked := by
  unfold State.sequence State.sendSnapshot; split <;> simp

@[simp] theorem State.masked_frameStart (t : Nat) : (s.frameStart t).ports.masked = s.ports.masked := by
  simp [State.frameStart]

end Sys2Proof.Machine
end

section
/-! PROOFS. The Load Governor (O55): what an outcome does to it, and the frame starts that are commands by their
outcome. -/

namespace Sys2Proof.Machine

/-! ### The late window and the on-time run (R152, R153) -/

section Outcomes

variable {g : Governor}

/-- A window of at most fifty outcomes: below fifty it grows, at fifty the oldest leaves. -/
theorem pushOutcome_eq {w : List FrameOutcome} (h : w.length ≤ 50) (o : FrameOutcome) :
    pushOutcome w o = if w.length < 50 then w ++ [o] else w.tail ++ [o] := by
  have hlength : (w ++ [o]).length = w.length + 1 := List.length_append
  unfold pushOutcome
  split
  · next hlt =>
    have hkeep : (w ++ [o]).length - 50 = 0 := by omega
    exact congrArg (List.drop · (w ++ [o])) hkeep
  · next hfull =>
    have hdrop : (w ++ [o]).length - 50 = 1 := by omega
    exact (congrArg (List.drop · (w ++ [o])) hdrop).trans
      (by rw [List.drop_append_of_le_length (by omega), List.drop_one])

theorem Governor.late_few (h : lateCount (pushOutcome g.window .late) ≤ 2) :
    g.late = ({ g with window := pushOutcome g.window .late, run := 0 }, false) :=
  if_neg (by omega)

/-- The third late outcome raises the level, where it is not the highest, and empties the window. -/
theorem Governor.late_third (hlevel : g.level ≤ 3) (h : 3 ≤ lateCount (pushOutcome g.window .late)) :
    g.late = ({ level := min 3 (g.level + 1), window := [], run := 0 }, decide (g.level < 3)) := by
  have raised : (if g.level < 3 then g.level + 1 else g.level) = min 3 (g.level + 1) := by
    split <;> omega
  rw [← raised]
  exact if_pos h

theorem Governor.onTime_short (h : g.run < 249) :
    g.onTime = ({ g with window := pushOutcome g.window .onTime, run := g.run + 1 }, false) :=
  if_neg (by omega)

/-- The run of 250 lowers the level, where it is not 0. -/
theorem Governor.onTime_250 (h : g.run = 249) :
    g.onTime =
      ({ level := g.level - 1, window := pushOutcome g.window .onTime, run := 0 }, decide (0 < g.level)) :=
  if_pos (by omega)

end Outcomes

/-! ### A frame start judged (R145, R153) -/

/-- An event raised stands in the record of a port that subscribes its group (R176). -/
theorem State.record_raiseIf (s : State) {b : Bool} {e : Notice} {p : Port} (hb : b = true)
    (h : (s.ports.get p).mask.get (noticeGroup e) ≠ .off) :
    ((s.raiseIf b e).ports.get p).record.get e = true := by
  subst hb
  simp [State.raiseIf, PortState.raise, NoticeRecord.get_raise, h]

/-- How the Composer judges a frame start: the governor after it, whether its level moves, and the notice of that. -/
def Composer.judged (c : Composer) : (Governor × Bool) × Notice :=
  if c.composition = none then (c.governor.onTime, .detailRecovered) else (c.governor.late, .lateFrames)

section FrameStart

variable {s : State}

theorem Composer.judged_late {c : Composer} (h : c.composition ≠ none) : c.judged = (c.governor.late, .lateFrames) :=
  if_neg h

theorem Composer.judged_onTime {c : Composer} (h : c.composition = none) :
    c.judged = (c.governor.onTime, .detailRecovered) :=
  if_pos h

theorem State.raiseIf_ports_congr {t : State} (h : t.ports = s.ports) (b : Bool) (e : Notice) :
    (t.raiseIf b e).ports = (s.raiseIf b e).ports := by
  cases b
  · exact h
  · exact congrArg (Ports.map (PortState.raise e)) h

/-- A snapshot that arrives is judged, and its notice raised where the level moves. -/
theorem State.snapshotArrives_judged (s : State) (x : Snapshot) :
    (s.snapshotArrives x).composer.governor = s.composer.judged.1.1
    ∧ (s.snapshotArrives x).ports = (s.raiseIf s.composer.judged.1.2 s.composer.judged.2).ports := by
  by_cases h : s.composer.composition = none
  · rw [State.snapshotArrives_idle h, Composer.judged_onTime h]
    exact ⟨by simp [State.beginComposition], State.raiseIf_ports_congr (by rfl) _ _⟩
  · rw [State.snapshotArrives_busy h, Composer.judged_late h]
    exact ⟨by simp, State.raiseIf_ports_congr (by rfl) _ _⟩

/-- In REHEARSAL and ON_AIR a frame start is judged: the governor steps, and a port that subscribes the notice holds
it where the level moves. Nothing before the judgement changes the masks. -/
theorem State.frameStart_judged (hm : s.output.mode.animates = true) (n : Nat) :
    (s.frameStart n).composer.governor = s.composer.judged.1.1
    ∧ (s.composer.judged.1.2 = true → ∀ p, (s.ports.get p).mask.get (noticeGroup s.composer.judged.2) ≠ .off →
        ((s.frameStart n).ports.get p).record.get s.composer.judged.2 = true) := by
  let u := s.withTiming { s.timing with
    frameCount := (s.timing.frameCount + 1) % 4294967296, lastFrameStart := some n, started := true }
  let v := u.advance.withField (u.advance.field.takeAll u.advance.snapshot.refs)
  have sequence : u.sequence = v.snapshotArrives u.advance.snapshot := if_pos hm
  have composer : v.composer = s.composer := by simp [v, u]
  have masks (p : Port) : (v.ports.get p).mask = (s.ports.get p).mask :=
    Ports.mask_of_masked (by simp [v, u]) p
  obtain ⟨governor, ports⟩ := v.snapshotArrives_judged u.advance.snapshot
  rw [← sequence, composer] at governor ports
  refine ⟨?_, fun hmoves p hp => ?_⟩
  · have kept : (s.frameStart n).composer.governor = u.sequence.composer.governor := by
      rw [State.frameStart, State.outputFrame_eq]
      rfl
    rw [kept, governor]
  · have kept : (s.frameStart n).ports = u.sequence.ports := by simp [State.frameStart, u]
    rw [kept, ports]
    exact v.record_raiseIf hmoves (by rwa [masks p])

end FrameStart

/-! ### The frame start a command makes (R126, R129, log entry 8) -/

section Command

variable {s v : State} {t : Nat}

/-- What a frame start's outcome follows from is the same in `u` as in `s`. -/
structure State.SameOutcome (s u : State) : Prop where
  composer : u.composer = s.composer
  output : u.output = s.output
  ports : u.ports.masked = s.ports.masked

/-- The frame start that a command makes: the internal one that is due outside LOCKED, that of an accepted pulse in
LOCKED. -/
def State.MakesFrameStart (s : State) (t : Nat) (v : State) : Prop :=
  (s.timing.lock ≠ .locked ∧ ∃ d, s.timing.nextDue = some d ∧ v = s.internalFrameStart d)
  ∨ (s.timing.lock = .locked
    ∧ (∃ l, s.timing.lastPulse = some l ∧ halfPeriod s.timing.rate ≤ (s.at t).now - l) ∧ v = (s.at t).pulse)

theorem State.MakesFrameStart.nextFrameStart (h : s.MakesFrameStart t v) : s.nextFrameStart t = some v := by
  unfold State.nextFrameStart
  rcases h with ⟨hlock, d, hd, rfl⟩ | ⟨hlock, ⟨l, hl, hhalf⟩, rfl⟩
  · rw [if_neg hlock, hd]
    rfl
  · rw [if_pos hlock, hl]
    exact if_neg (Nat.not_lt.2 hhalf)

theorem State.internalFrameStart_sameOutcome (s : State) (d : Nat) :
    ∃ u n, s.internalFrameStart d = u.frameStart n ∧ s.SameOutcome u := by
  unfold State.internalFrameStart
  dsimp only
  split
  · split
    · exact ⟨_, _, rfl, rfl, rfl, Ports.masked_raise _ _⟩
    · exact ⟨_, _, rfl, rfl, rfl, rfl⟩
  · exact ⟨_, _, rfl, rfl, rfl, rfl⟩

theorem State.MakesFrameStart.frameStart (h : s.MakesFrameStart t v) :
    ∃ u n, v = u.frameStart n ∧ s.SameOutcome u := by
  rcases h with ⟨-, d, -, rfl⟩ | ⟨hlock, ⟨l, hl, hhalf⟩, rfl⟩
  · exact s.internalFrameStart_sameOutcome d
  · rw [State.pulse_locked (s := s.at t) hlock hl, State.lockedPulse_accepted (s := s.at t) hhalf]
    exact ⟨_, _, rfl, rfl, rfl, rfl⟩

/-- The frame start of a command is judged by the Composer as it stands. -/
theorem State.MakesFrameStart.judged (h : s.MakesFrameStart t v) (hm : s.output.mode.animates = true) :
    v.composer.governor = s.composer.judged.1.1
    ∧ (s.composer.judged.1.2 = true → ∀ p, (s.ports.get p).mask.get (noticeGroup s.composer.judged.2) ≠ .off →
        (v.ports.get p).record.get s.composer.judged.2 = true) := by
  obtain ⟨u, n, rfl, composer, output, ports⟩ := h.frameStart
  have judged := State.frameStart_judged (s := u) (by rwa [output]) n
  rw [composer] at judged
  refine ⟨judged.1, fun hmoves p hp => judged.2 hmoves p ?_⟩
  rwa [Ports.mask_of_masked ports p]

theorem State.thirdLate_iff : s.thirdLate = true ↔
    (s.output.mode = .rehearsal ∨ s.output.mode = .onAir) ∧ s.composer.composition ≠ none
      ∧ 3 ≤ lateCount (pushOutcome s.composer.governor.window .late) := by
  simp only [State.thirdLate, Bool.and_eq_true, Mode.animates_iff, Option.isSome_iff_ne_none, decide_eq_true_eq,
    and_assoc]

theorem State.run250_iff (h : s.composer.governor.run ≤ 249) : s.run250 = true ↔
    (s.output.mode = .rehearsal ∨ s.output.mode = .onAir) ∧ s.composer.composition = none
      ∧ s.composer.governor.run = 249 := by
  simp only [State.run250, Bool.and_eq_true, Mode.animates_iff, Option.isNone_iff_eq_none, decide_eq_true_eq,
    and_assoc]
  exact and_congr_right' (and_congr_right' (by omega))

/-- A command of an outcome makes the frame start where its outcome would be that one. -/
theorem State.MakesFrameStart.getD (h : s.MakesFrameStart t v) : (s.nextFrameStart t).getD s = v := by
  rw [h.nextFrameStart]
  rfl

end Command

/-- Settles O55: the governor by the count of its window and by its run, and each command by whether the frame start
would have its outcome. -/
theorem governorJudgesFrames : Obligations.GovernorJudgesFrames := by
  refine ⟨fun g hlevel hwindow hlate hrun => ?_, fun t s hr hb => ?_⟩
  · intro pushed
    have hpushed (o : FrameOutcome) : pushed o = pushOutcome g.window o := (pushOutcome_eq hwindow o).symm
    simp only [hpushed]
    exact ⟨Governor.late_few, fun h => Governor.late_third hlevel h.ge, Governor.onTime_short, Governor.onTime_250⟩
  · intro g late recovered
    have hlate : s.thirdLate = true ↔ late := State.thirdLate_iff
    have hrecovered : s.run250 = true ↔ recovered := State.run250_iff hb.run
    have hexecLate : exec (.lateFrames t) s = .next (if s.thirdLate then (s.nextFrameStart t).getD s else s) :=
      unlessFrozen_eq s hr
    have hexecRecovered :
        exec (.detailRecovered t) s = .next (if s.run250 then (s.nextFrameStart t).getD s else s) :=
      unlessFrozen_eq s hr
    refine ⟨fun h => ?_, fun h => ?_, fun v hv => ⟨fun h => ?_, fun h => ?_⟩⟩
    · rw [hexecLate, if_neg (hlate.not.2 h)]
    · rw [hexecRecovered, if_neg (hrecovered.not.2 h)]
    · have hmakes : s.MakesFrameStart t v := hv
      obtain ⟨hmode, hcomposing, hthird⟩ := h
      obtain ⟨governor, notice⟩ := hmakes.judged ((Mode.animates_iff _).2 hmode)
      rw [Composer.judged_late hcomposing, Governor.late_third hb.level hthird] at governor notice
      refine ⟨?_, governor, fun h3 => notice (decide_eq_true h3)⟩
      rw [hexecLate, if_pos (hlate.2 ⟨hmode, hcomposing, hthird⟩), hmakes.getD]
    · have hmakes : s.MakesFrameStart t v := hv
      obtain ⟨hmode, hidle, hrun⟩ := h
      obtain ⟨governor, notice⟩ := hmakes.judged ((Mode.animates_iff _).2 hmode)
      rw [Composer.judged_onTime hidle, Governor.onTime_250 hrun] at governor notice
      refine ⟨?_, congrArg Governor.level governor, congrArg Governor.run governor,
        fun h0 => notice (decide_eq_true h0)⟩
      rw [hexecRecovered, if_pos (hrecovered.2 ⟨hmode, hidle, hrun⟩), hmakes.getD]

end Sys2Proof.Machine
end

section
/-! PROOFS. Safe (O58): what its entry and its leaving do, SAFE_SET and the SAFE line, and the fill chosen. -/

namespace Sys2Proof.Machine

/-! ### The entry and the leaving of safe (R157, R158) -/

/-- Safe is entered, left, or stays as it was. -/
theorem State.safeChanged_eq (s : State) (before : Bool) :
    s.safeChanged before =
      if s.safeHolds = before then s else if s.safeHolds = true then s.enterSafe else s.leaveSafe := by
  unfold State.safeChanged
  cases s.safeHolds <;> cases before <;> rfl

/-- The entry and the leaving of safe change of the Output Stage at most the freeze record and the fill. -/
theorem State.safeChanged_output (s : State) (before : Bool) :
    ∃ freeze fill, (s.safeChanged before).output = { s.output with freeze := freeze, fill := fill } := by
  rw [State.safeChanged_eq]
  split
  · exact ⟨_, _, rfl⟩
  · split
    · exact ⟨_, _, rfl⟩
    · unfold State.leaveSafe State.refillIfDormant
      split <;> exact ⟨_, _, rfl⟩

@[simp] theorem State.safeChanged_safeSet (s : State) (before : Bool) :
    (s.safeChanged before).output.safeSet = s.output.safeSet := by
  obtain ⟨_, _, houtput⟩ := s.safeChanged_output before
  rw [houtput]

@[simp] theorem State.safeChanged_card (s : State) (before : Bool) :
    (s.safeChanged before).output.card = s.output.card := by
  obtain ⟨_, _, houtput⟩ := s.safeChanged_output before
  rw [houtput]

@[simp] theorem State.safeHolds_safeChanged (s : State) (before : Bool) :
    (s.safeChanged before).safeHolds = s.safeHolds := by
  simp [State.safeHolds]

/-! ### SAFE_SET and the SAFE line (R157, R159) -/

/-- The SAFE line, the SAFE_SET flag and the card choice put in force, with the entry or the leaving of safe that
follows. -/
def State.withSafe (s : State) (line set : Bool) (card : Card) : State :=
  State.safeChanged { s with safeLine := line, output := { s.output with safeSet := set, card := card } } s.safeHolds

section SafeSet

variable {s : State} {flag : Nat} {card : Option Nat}

theorem cardOfCode_isSome_iff {c : Nat} : (cardOfCode c).isSome = true ↔ c ≤ 1 := by
  match c with
  | 0 => decide
  | 1 => decide
  | c + 2 => simp [cardOfCode]

/-- The codes of a card, one absent included, are 0 and 1. -/
theorem cardFits_iff : (card.all fun c => (cardOfCode c).isSome) = true ↔ ∀ c, card = some c → c ≤ 1 := by
  simp only [Option.all_eq_true, cardOfCode_isSome_iff]

/-- The card choice of a SAFE_SET whose code fits: the one in force where it carries none. -/
theorem cardOfCode_getD (card : Option Nat) (kept : Card) : (∀ c, card = some c → c ≤ 1) →
    (card.bind cardOfCode).getD kept =
      match card with
      | none => kept
      | some 0 => .still
      | some _ => .freeze := fun h =>
  match card, h with
  | none, _ => rfl
  | some 0, _ => rfl
  | some 1, _ => rfl
  | some (c + 2), h => absurd (h _ rfl) (by omega)

theorem safeSet_badLength (h : 1 < flag ∨ ∃ c, card = some c ∧ 1 < c) :
    safeSet flag card s = (s, refuse .badLength) := by
  by_cases hflag : 1 < flag
  · simp only [safeSet, onOffOfCode_none hflag]
  · obtain ⟨c, hc, hbad⟩ := h.resolve_left hflag
    have hmisfit : (card.all fun c => (cardOfCode c).isSome) ≠ true :=
      cardFits_iff.not.2 fun hfits => absurd (hfits c hc) (by omega)
    simp only [safeSet, onOffOfCode_some (Nat.not_lt.1 hflag)]
    exact if_pos (by simpa using hmisfit)

theorem safeSet_taken (hflag : flag ≤ 1) (hcard : ∀ c, card = some c → c ≤ 1) {choice : Card}
    (hchoice : (card.bind cardOfCode).getD s.output.card = choice) :
    safeSet flag card s = (s.withSafe s.safeLine (flag == 1) choice,
      { outcome := .done
        fields := [.octet flag, .octet (if s.safeLine then 1 else 0), .octet (if s.safeLine ∨ flag = 1 then 1 else 0),
          .octet (if choice = .still then 0 else 1)] }) := by
  have hfits := cardFits_iff.2 hcard
  have hreply : flagField (flag == 1) ++ flagField s.safeLine ++ flagField (s.safeLine || flag == 1)
      ++ codeField (cardCode choice)
        = [.octet flag, .octet (if s.safeLine then 1 else 0), .octet (if s.safeLine ∨ flag = 1 then 1 else 0),
          .octet (if choice = .still then 0 else 1)] := by
    rw [flagField_onOff hflag]
    cases choice <;> simp [flagField, codeField, flagCode, cardCode]
  simp only [safeSet, onOffOfCode_some hflag, hfits, hchoice]
  rw [← hreply]
  refine Prod.ext rfl (congrArg (Answer.mk .done) ?_)
  simp [State.safeHolds]

end SafeSet

/-- Settles O58: the lines, flags and cards put in force with the entry or leaving of safe they make, and R155's table
over the coastline of the STILL card. -/
theorem safeEnteredAndLeft : Obligations.SafeEnteredAndLeft := by
  constructor
  · intro s hr changed
    have hchanged (line set : Bool) (card : Card) : s.withSafe line set card = changed line set card :=
      State.safeChanged_eq _ _
    refine ⟨fun b => ?_, fun flag card h => ?_, fun flag card hflag hcard => ?_⟩
    · rw [← hchanged]
      exact congrArg Host.Outcome.next (if_neg (by simp [hr]))
    · exact unlessFrozen_answered hr (safeSet_badLength h)
    · intro choice
      rw [← hchanged]
      exact unlessFrozen_answered hr (safeSet_taken hflag hcard (cardOfCode_getD card s.output.card hcard))
  · intro s coastline chart fill
    have hcoastline : stillCoastline s = coastline := by
      unfold stillCoastline coastline
      cases s.coast.state <;> cases s.field.grid <;> rfl
    have hfill : chooseFill s = fill := by
      have hrows := chooseFill_eq s
      rw [safeCard, hcoastline] at hrows
      exact hrows
    refine ⟨hcoastline, ?_, ?_⟩
    · rw [← hfill]
      rfl
    · rw [← hfill]
      rfl

end Sys2Proof.Machine
end

section
/-! PROOFS. The rules of the output side (O20), operation by operation: the Composer, the Output Stage and the notice
records. -/

namespace Sys2Proof.Machine

theorem sat16_le (n : Nat) : sat16 n ≤ 65535 := Nat.min_le_left _ _

/-! ### The Composer (R65, R144, R145, R149) -/

section Composer

variable {s t : State} {x : Snapshot}

theorem State.ComposerSound.congr (h : s.ComposerSound) (hc : t.composer = s.composer) : t.ComposerSound := by
  obtain ⟨idle, mailbox, composition, counts⟩ := h
  constructor
  all_goals
    simp only [hc]
    assumption

/-- The snapshot of a sound LIVE (R63, R65). -/
theorem State.ShowSound.snapshot (h : s.ShowSound) : s.snapshot.Sound := by
  intro c hc
  obtain ⟨y, hy, rfl⟩ := Option.map_eq_some_iff.1 hc
  obtain ⟨hlive, -⟩ := h.live y hy
  exact ⟨frameWeight_le hlive.phase, fun hp => hlive.pending (of_decide_eq_true hp)⟩

/-- A snapshot that arrives is composed at the governor's level, or waits behind the composition in progress. -/
theorem State.ComposerSound.snapshotArrives (h : s.ComposerSound) (hg : s.composer.governor.Bounded) (hx : x.Sound) :
    (s.snapshotArrives x).ComposerSound := by
  obtain ⟨late, lateFrames, dropped⟩ := h.counts
  by_cases hc : s.composer.composition = none
  · rw [State.snapshotArrives_idle hc]
    refine State.ComposerSound.congr (s := (s.withComposer { s.composer with
      governor := s.composer.governor.onTime.1 }).beginComposition x) ?_ (State.raiseIf_composer _ _ _)
    exact
      { idle := nofun
        mailbox := h.mailbox
        composition := fun y hy => Option.some.inj hy ▸ ⟨hx, hg.onTime.level⟩
        counts := h.counts }
  · rw [State.snapshotArrives_busy hc]
    refine State.ComposerSound.congr (s := s.withComposer { s.composer with
      governor := s.composer.governor.late.1
      lateFrames := sat16 (s.composer.lateFrames + 1)
      mailbox := some x
      late := if s.composer.mailbox = none then s.composer.late else sat16 (s.composer.late + 1) }) ?_
      (State.raiseIf_composer _ _ _)
    refine
      { idle := fun hnone => absurd hnone hc
        mailbox := fun y hy => Option.some.inj hy ▸ hx
        composition := h.composition
        counts := ⟨?_, sat16_le _, dropped⟩ }
    dsimp only [State.withComposer]
    split
    · exact late
    · exact sat16_le _

/-- A completion leaves the Composer idle, or composing the snapshot that waited. -/
theorem State.ComposerSound.completeComposition (h : s.ComposerSound) (hg : s.composer.governor.Bounded)
    (y : Composition) : (s.completeComposition y).ComposerSound := by
  obtain ⟨late, lateFrames, dropped⟩ := h.counts
  have counts : (s.placeRecord y).composer.late ≤ 65535 ∧ (s.placeRecord y).composer.lateFrames ≤ 65535
      ∧ (s.placeRecord y).composer.dropped ≤ 65535 := by
    dsimp only [State.placeRecord]
    refine ⟨late, lateFrames, ?_⟩
    split
    · exact dropped
    · exact sat16_le _
  cases hm : s.composer.mailbox with
  | none =>
    rw [State.completeComposition_alone hm]
    refine State.ComposerSound.congr (s := s.placeRecord y) ?_ (State.recordWritten_composer s y)
    exact
      { idle := fun _ => hm
        mailbox := fun z hz => absurd (hm.symm.trans hz) (Option.some_ne_none z).symm
        composition := fun z hz => absurd hz (Option.some_ne_none z).symm
        counts := counts }
  | some z =>
    rw [State.completeComposition_waiting hm]
    exact
      { idle := fun hnone => absurd hnone (Option.some_ne_none _)
        mailbox := fun w hw => absurd hw (Option.some_ne_none w).symm
        composition := fun w hw => Option.some.inj hw ▸ ⟨h.mailbox z hm, hg.level⟩
        counts := counts }

theorem State.ComposerSound.outputFrame (h : s.ComposerSound) : s.outputFrame.ComposerSound := by
  obtain ⟨idle, mailbox, composition, counts⟩ := h
  rw [State.outputFrame_eq]
  exact ⟨idle, mailbox, composition, counts⟩

end Composer

/-! ### The Output Stage (R154, R155, R158, R160, R184) -/

/-- The rules of an Output Stage that plays, with safe holding or not. -/
structure OutputStage.Sound (o : OutputStage) (safe : Bool) : Prop where
  lineup : o.mode = .onAir → o.lineup = false
  unkeyed : o.fill = .lineUpCard → o.key = .nothing
  dormant : o.mode = .dormant → o.key = .nothing
  card : safe = true → o.fill.isSafeCard = true
  freeze : safe = false → o.freeze = none

/-- The Output Stage within its rules, by whether safe holds. -/
def State.OutputPlays (s : State) : Prop := s.output.Sound s.safeHolds

theorem State.outputSound_iff {s : State} (h : s.resetLine = false) : s.OutputSound ↔ s.OutputPlays :=
  ⟨fun ⟨lineup, unkeyed, dormant, card, freeze, _⟩ => ⟨lineup, unkeyed, dormant, card h, freeze h⟩,
    fun ⟨lineup, unkeyed, dormant, card, freeze⟩ =>
      ⟨lineup, unkeyed, dormant, fun _ => card, fun _ => freeze, fun hr => absurd (h.symm.trans hr) nofun⟩⟩

section Output

variable {s : State}

theorem chooseFill_safe (h : s.safeHolds = true) : (chooseFill s).isSafeCard = true := by
  rw [chooseFill, if_pos h, safeCard]
  split <;> rfl

/-- The line-up card is chosen only under the line-up flag, and not in safe (R155). -/
theorem chooseFill_lineUpCard (h : chooseFill s = .lineUpCard) : s.safeHolds = false ∧ s.output.lineup = true := by
  have hsafe : s.safeHolds = false := by
    refine Bool.eq_false_iff.2 fun hsafe => ?_
    have hcard := chooseFill_safe hsafe
    rw [h] at hcard
    exact absurd hcard nofun
  refine ⟨hsafe, Bool.not_eq_false _ ▸ fun hoff => ?_⟩
  rw [chooseFill, if_neg (by simp [hsafe]), if_neg (by simp [hoff])] at h
  split at h
  · exact absurd h nofun
  · split at h <;> exact absurd h nofun

theorem chooseKey_nothing {m : Mode} (h : m ≠ .onAir) : chooseKey m = .nothing := if_neg h

/-- The fill chosen afresh with the key left: in safe, or while the key carries nothing. -/
theorem State.refill_outputPlays (lineup : s.output.mode = .onAir → s.output.lineup = false)
    (dormant : s.output.mode = .dormant → s.output.key = .nothing)
    (freeze : s.safeHolds = false → s.output.freeze = none)
    (hkey : s.safeHolds = true ∨ s.output.key = .nothing) : s.refill.OutputPlays where
  lineup := lineup
  unkeyed h := hkey.resolve_left fun hsafe => by
    have ⟨hoff, _⟩ := chooseFill_lineUpCard h
    exact absurd (hsafe.symm.trans hoff) nofun
  dormant := dormant
  card := chooseFill_safe
  freeze := freeze

/-- The fill and the key chosen afresh: the line-up flag is OFF where the key is that of the fill. -/
theorem State.refillKeyed_outputPlays (lineup : s.output.mode = .onAir → s.output.lineup = false)
    (freeze : s.safeHolds = false → s.output.freeze = none) : s.refillKeyed.OutputPlays where
  lineup := lineup
  unkeyed h := chooseKey_nothing fun hair => by
    have ⟨_, hon⟩ := chooseFill_lineUpCard h
    exact absurd ((lineup hair).symm.trans hon) nofun
  dormant h := chooseKey_nothing fun hair => by
    have hm : Mode.dormant = .onAir := h.symm.trans hair
    exact absurd hm nofun
  card := chooseFill_safe
  freeze := freeze

/-- Where safe held or not `before` the event, its entry and its leaving put the Output Stage right (R157). -/
theorem State.safeChanged_outputPlays {before : Bool} (h : s.output.Sound before) :
    (s.safeChanged before).OutputPlays := by
  rw [State.safeChanged_eq]
  split
  · next hsame =>
    subst hsame
    exact h
  · split
    · next hsafe =>
      exact State.refill_outputPlays (s := (s.withOutput { s.output with
          freeze := if s.output.card = .freeze then s.output.shown.filter fun r => r.chart.isSome else none
        }).raise .safeEntered) h.lineup h.dormant (fun hnot => absurd (hsafe.symm.trans hnot) nofun) (.inl hsafe)
    · next hchanged hnot =>
      have hbefore : before = true := by
        cases before
        · exact absurd (Bool.eq_false_iff.2 hnot) hchanged
        · rfl
      unfold State.leaveSafe State.refillIfDormant
      split
      · next hm =>
        exact State.refill_outputPlays (s := (s.withOutput { s.output with freeze := none }).raise .safeLeft)
          h.lineup h.dormant (fun _ => rfl) (.inr (h.dormant hm))
      · exact ⟨h.lineup, h.unkeyed, h.dormant, fun hsafe => absurd hsafe hnot, fun _ => rfl⟩

theorem State.setLineup_outputPlays {on : Bool} (h : s.OutputPlays) (hair : on = true → s.output.mode ≠ .onAir) :
    (s.setLineup on).OutputPlays := by
  have lineup : s.output.mode = .onAir → on = false := fun hm => Bool.eq_false_iff.2 fun hon => hair hon hm
  rw [State.setLineup_cases]
  split
  · next hchange =>
    exact State.refill_outputPlays (s := s.withOutput { s.output with lineup := on }) lineup h.dormant h.freeze
      (.inr (h.dormant hchange.1))
  · exact ⟨lineup, h.unkeyed, h.dormant, h.card, h.freeze⟩

/-- A line-up flag kept but into ON_AIR is OFF there (R160). -/
theorem lineup_into_onAir {m : Mode} (b : Bool) (h : m = .onAir) : (b && decide (m ≠ .onAir)) = false := by
  simp [h]

theorem State.enterDormant_outputPlays (h : s.OutputPlays) : s.enterDormant.OutputPlays :=
  State.refillKeyed_outputPlays (s := (s.withTiming s.timing.stopped).withOutput { s.output with mode := .dormant })
    nofun h.freeze

theorem State.leaveDormant_outputPlays (h : s.OutputPlays) (m : Mode) : (s.leaveDormant m).OutputPlays := by
  let u := ((s.withTiming (s.timing.startedAt s.now)).withOutput
    { s.output with mode := m, lineup := s.output.lineup && decide (m ≠ .onAir) }).takeHead
  have output : u.output = { s.output with mode := m, lineup := s.output.lineup && decide (m ≠ .onAir) } := by
    simp [u]
  have safe : u.safeHolds = s.safeHolds := by simp [State.safeHolds, u]
  refine State.refillKeyed_outputPlays (s := u) ?_ ?_
  · rw [output]
    exact lineup_into_onAir _
  · rw [output, safe]
    exact h.freeze

theorem State.changeMode_outputPlays (h : s.OutputPlays) (m : Mode) : (s.changeMode m).OutputPlays := by
  unfold State.changeMode
  split
  · exact h
  · split
    · exact State.enterDormant_outputPlays h
    · next hm =>
      split
      · exact State.leaveDormant_outputPlays h m
      · exact ⟨lineup_into_onAir _, h.unkeyed, fun hdormant => absurd hdormant hm, h.card, h.freeze⟩

/-- SAFE_SET (R159): the flag and the card choice are no rule's matter until safe is entered or left. -/
theorem safeSet_outputPlays (h : s.OutputPlays) (n : Nat) (c : Option Nat) : (safeSet n c s).1.OutputPlays := by
  unfold safeSet
  split
  · exact h
  · split
    · exact h
    · exact State.safeChanged_outputPlays ⟨h.lineup, h.unkeyed, h.dormant, h.card, h.freeze⟩

theorem lineup_outputPlays (h : s.OutputPlays) (n : Nat) : (lineup n s).1.OutputPlays := by
  unfold lineup
  split
  · exact h
  · split
    · exact h
    · next hallowed => exact State.setLineup_outputPlays h fun hon hm => hallowed ⟨hon, hm⟩

/-- PLAYOUT_RESET turns SAFE_SET and the line-up flag OFF (R154, R187). -/
theorem State.resetOutput_outputPlays (h : s.OutputPlays) : s.resetOutput.OutputPlays :=
  State.setLineup_outputPlays
    (State.safeChanged_outputPlays ⟨h.lineup, h.unkeyed, h.dormant, h.card, h.freeze⟩) nofun

/-- A frame start shows the completed record and chooses the fill and the key (R155). -/
theorem State.outputFrame_outputPlays (h : s.OutputPlays) : s.outputFrame.OutputPlays := by
  rw [State.outputFrame_eq]
  exact State.refillKeyed_outputPlays h.lineup h.freeze

end Output

/-! ### The notice records (R170, R176, R179) -/

/-- A port whose record holds no flag of a group its mask gives OFF, and whose counts saturate. -/
def PortState.NoticesSound (x : PortState) : Prop :=
  (∀ e, x.mask.get (noticeGroup e) = .off → x.record.get e = false) ∧ x.linkErrors ≤ 65535 ∧ x.overruns ≤ 65535

theorem PortState.noticesSound_masked (x : PortState) : x.masked.NoticesSound ↔ x.NoticesSound := by
  refine and_congr (forall_congr' fun e => ?_) Iff.rfl
  refine imp_congr_right fun hoff => ?_
  have hoff : x.mask.get (noticeGroup e) = .off := hoff
  rw [PortState.masked_get, hoff]
  simp

section Notices

variable {s t : State}

theorem State.NoticesSound.port (h : s.NoticesSound) (p : Port) : (s.ports.get p).NoticesSound := h p

/-- Raising keeps the notice records sound. -/
theorem State.NoticesSound.of_masked (h : s.NoticesSound) (ports : t.ports.masked = s.ports.masked) :
    t.NoticesSound := by
  intro p
  have hport := congrArg (fun ps => PortState.NoticesSound (ps.get p)) ports
  simp only [Ports.masked, Ports.get_map, PortState.noticesSound_masked] at hport
  exact hport.mpr (h.port p)

theorem State.NoticesSound.congr (h : s.NoticesSound) (ports : t.ports = s.ports) : t.NoticesSound :=
  h.of_masked (congrArg Ports.masked ports)

theorem State.NoticesSound.modifyPort (h : s.NoticesSound) {p : Port} {f : PortState → PortState}
    (hf : (s.ports.get p).NoticesSound → (f (s.ports.get p)).NoticesSound) : (s.modifyPort p f).NoticesSound := by
  intro q
  change PortState.NoticesSound (((s.modifyPort p f).ports).get q)
  rw [State.modifyPort_ports]
  by_cases hq : q = p
  · subst hq
    rw [Ports.get_set]
    exact hf (h.port q)
  · rw [Ports.get_set_ne _ hq]
    exact h.port q

/-- A port as a section reset leaves it (R170, R175). -/
theorem PortState.cleared_noticesSound (x : PortState) :
    PortState.NoticesSound { x with record := NoticeRecord.empty, linkErrors := 0, overruns := 0 } :=
  ⟨fun e _ => NoticeRecord.get_empty e, Nat.zero_le _, Nat.zero_le _⟩

end Notices

end Sys2Proof.Machine
end

section
/-! PROOFS. What keeps the rules of the output side (O20): frame starts, pulses, the requests of Frame Timing and the
Output Stage, and the completion of a composition. -/

namespace Sys2Proof.Machine

variable (s : State)

/-! ### What an operation keeps -/

/-- What an operation keeps of the output side, the rules of the show and the capacities that it rests on among it. -/
structure State.Presents (s t : State) : Prop where
  keeps : s.Keeps t
  line : t.resetLine = s.resetLine
  composer : s.ShowSound → s.Bounded → s.ComposerSound → t.ComposerSound
  output : s.OutputPlays → t.OutputPlays
  notices : s.NoticesSound → t.NoticesSound

theorem State.Presents.refl : s.Presents s := ⟨.refl s, rfl, fun _ _ => id, id, id⟩

theorem State.Presents.trans {s t u : State} (h : s.Presents t) (k : t.Presents u) : s.Presents u :=
  ⟨h.keeps.trans k.keeps, k.line.trans h.line,
    fun hs hb hc => k.composer (h.keeps.shows hs) (h.keeps.bounded hb) (h.composer hs hb hc), k.output ∘ h.output,
    k.notices ∘ h.notices⟩

/-- An operation that leaves the Composer as it stands. -/
theorem State.Presents.of_composer {s t : State} (keeps : s.Keeps t) (output : s.OutputPlays → t.OutputPlays)
    (notices : s.NoticesSound → t.NoticesSound) (line : t.resetLine = s.resetLine := by simp)
    (composer : t.composer = s.composer := by simp) : s.Presents t :=
  ⟨keeps, line, fun _ _ h => h.congr composer, output, notices⟩

/-- An operation that leaves the Composer, the Output Stage and the SAFE line as they stand. -/
theorem State.Presents.of_ports {s t : State} (keeps : s.Keeps t) (notices : s.NoticesSound → t.NoticesSound)
    (line : t.resetLine = s.resetLine := by simp) (safeLine : t.safeLine = s.safeLine := by simp)
    (composer : t.composer = s.composer := by simp) (output : t.output = s.output := by simp) : s.Presents t := by
  refine .of_composer keeps (fun h => ?_) notices line composer
  rw [State.OutputPlays, State.safeHolds, safeLine, output]
  exact h

/-- And that changes the ports by raising notices alone. -/
theorem State.Presents.of_raised {s t : State} (keeps : s.Keeps t)
    (ports : t.ports.masked = s.ports.masked := by simp) (line : t.resetLine = s.resetLine := by simp)
    (safeLine : t.safeLine = s.safeLine := by simp) (composer : t.composer = s.composer := by simp)
    (output : t.output = s.output := by simp) : s.Presents t :=
  .of_ports keeps (fun h => h.of_masked ports) line safeLine composer output

section Chains

variable {s} {t : State}

theorem State.Presents.raise (h : s.Presents t) {e : Notice} : s.Presents (t.raise e) :=
  h.trans (.of_raised (State.Keeps.refl t).raise)

theorem State.Presents.at (h : s.Presents t) {n : Nat} : s.Presents (t.at n) :=
  h.trans (.of_raised (State.Keeps.refl t).at)

theorem State.Presents.withTiming (h : s.Presents t) {x : FrameTiming} : s.Presents (t.withTiming x) :=
  h.trans (.of_raised (State.Keeps.refl t).withTiming)

/-- A port changed, its buffer no longer and its notices sound. -/
theorem State.Presents.modifyPort (h : s.Presents t) {p : Port} {f : PortState → PortState}
    (hbuffer : (t.ports.get p).buffer.length ≤ 2 → (f (t.ports.get p)).buffer.length ≤ 2)
    (hnotices : (t.ports.get p).NoticesSound → (f (t.ports.get p)).NoticesSound) : s.Presents (t.modifyPort p f) :=
  h.trans (.of_ports ((State.Keeps.refl t).modifyPort hbuffer) fun hn => hn.modifyPort hnotices)

end Chains

/-! ### Frame starts -/

/-- The snapshot of a sound LIVE is composed, or waits (R143, R145). -/
theorem State.sendSnapshot_presents : s.Presents s.sendSnapshot := by
  let taken := s.withField (s.field.takeAll s.snapshot.refs)
  have ports : s.sendSnapshot.ports.masked = s.ports.masked := by simp [State.sendSnapshot]
  refine ⟨s.sendSnapshot_keeps, by simp, fun hs hb hc => ?_, fun h => ?_, fun h => h.of_masked ports⟩
  · have governor : s.composer.governor.Bounded := ⟨hb.level, hb.lateWindow, hb.run⟩
    exact State.ComposerSound.snapshotArrives (s := taken) (hc.congr rfl) governor hs.snapshot
  · simp only [State.OutputPlays, State.safeHolds, State.sendSnapshot_frame]
    exact h

theorem State.sequence_presents : s.Presents s.sequence := by
  unfold State.sequence
  split
  · exact (State.Presents.of_raised s.advance_keeps).trans (State.sendSnapshot_presents _)
  · exact .refl s

theorem State.outputFrame_presents : s.Presents s.outputFrame :=
  ⟨s.outputFrame_keeps, by simp, fun _ _ h => h.outputFrame, State.outputFrame_outputPlays, fun h => h.congr (by simp)⟩

section Chains

variable {s} {t : State}

theorem State.Presents.frameStart (h : s.Presents t) {n : Nat} : s.Presents (t.frameStart n) :=
  h.withTiming.trans ((State.sequence_presents _).trans (State.outputFrame_presents _))

theorem State.Presents.makeOverdue (h : s.Presents t) : s.Presents t.makeOverdue := by
  unfold State.makeOverdue
  split
  · split
    · exact h.withTiming.frameStart
    · exact h
  · exact h

end Chains

theorem State.internalFrameStart_presents (d : Nat) : s.Presents (s.internalFrameStart d) := by
  have clock := (State.Presents.refl s).at (n := d)
  unfold State.internalFrameStart
  dsimp only
  split
  · split
    · exact clock.withTiming.raise.frameStart
    · exact clock.withTiming.frameStart
  · exact clock.withTiming.frameStart

/-! ### Pulses and silences (R125 to R131) -/

theorem State.lockingPulse_presents (d : Nat) : s.Presents (s.lockingPulse d) := by
  have locked {x : FrameTiming} : s.Presents ((s.withTiming x).raise .refLocked) :=
    (State.Presents.refl s).withTiming.raise
  unfold State.lockingPulse
  dsimp only
  split
  · exact locked.withTiming
  · exact locked.frameStart

theorem State.acquiringPulse_presents (d : Nat) : s.Presents (s.acquiringPulse d) := by
  unfold State.acquiringPulse
  dsimp only
  split
  · split
    · exact s.lockingPulse_presents d
    · exact (State.Presents.refl s).withTiming
  · exact (State.Presents.refl s).withTiming

theorem State.lockedPulse_presents (d : Nat) : s.Presents (s.lockedPulse d) := by
  unfold State.lockedPulse
  dsimp only
  split
  · exact (State.Presents.refl s).withTiming
  · exact (State.Presents.refl s).withTiming.frameStart

theorem State.pulse_presents : s.Presents s.pulse := by
  have first : s.Presents s.firstPulse := (State.Presents.refl s).withTiming
  unfold State.pulse
  dsimp only
  split
  · exact first
  · split
    · exact s.acquiringPulse_presents _
    · exact first
  · split
    · exact s.lockedPulse_presents _
    · exact (State.Presents.refl s).withTiming.frameStart
  · exact first.withTiming.makeOverdue

theorem State.nextFrameStart_presents (n : Nat) : s.Presents ((s.nextFrameStart n).getD s) := by
  unfold State.nextFrameStart
  split
  · split
    · split
      · exact .refl s
      · exact (State.Presents.refl s).at.trans (State.pulse_presents _)
    · exact .refl s
  · cases s.timing.nextDue with
    | none => exact .refl s
    | some d => exact s.internalFrameStart_presents d

/-! ### The requests of Frame Timing and the Output Stage (R133, R154 to R160, R183, R187) -/

theorem referenceSet_presents (c : Nat) : s.Presents (referenceSet c s).1 := by
  unfold referenceSet State.setReference
  split
  · exact .refl s
  · dsimp only
    split
    · exact (State.Presents.refl s).withTiming
    · exact (State.Presents.refl s).withTiming.makeOverdue

@[simp] theorem State.masked_safeChanged (b : Bool) : (s.safeChanged b).ports.masked = s.ports.masked := by
  unfold State.safeChanged State.enterSafe State.leaveSafe; (repeat' split) <;> simp

theorem safeSet_presents (n : Nat) (c : Option Nat) : s.Presents (safeSet n c s).1 := by
  refine .of_composer (safeSet_keeps s n c) (fun h => safeSet_outputPlays h n c) fun h => h.of_masked ?_
  unfold safeSet
  (repeat' split) <;> simp

theorem lineup_presents (n : Nat) : s.Presents (lineup n s).1 :=
  .of_composer (lineup_keeps s n) (fun h => lineup_outputPlays h n) fun h => h.congr (by simp)

@[simp] theorem State.masked_leaveDormant (m : Mode) : (s.leaveDormant m).ports.masked = s.ports.masked := by
  simp [State.leaveDormant]

theorem outputMode_presents (n : Nat) : s.Presents (outputMode n s).1 := by
  refine .of_composer (outputMode_keeps s n) (fun h => ?_) fun h => h.of_masked ?_
  · unfold outputMode
    split
    · exact h
    · exact State.changeMode_outputPlays h _
  · unfold outputMode State.changeMode
    (repeat' split) <;> simp

theorem State.wakingPulse_presents : s.Presents s.wakingPulse :=
  .of_composer s.wakingPulse_keeps
    (fun h => State.leaveDormant_outputPlays (s := s.withTiming { s.timing with lastPulse := some s.now }) h .standby)
    fun h => h.of_masked (by simp [State.wakingPulse])

theorem State.resetOutput_presents : s.Presents s.resetOutput :=
  .of_composer s.resetOutput_keeps State.resetOutput_outputPlays
    fun h => h.of_masked (by simp [State.resetOutput])

theorem State.resetTiming_presents : s.Presents s.resetTiming := by
  unfold State.resetTiming
  dsimp only
  split
  · exact (State.Presents.refl s).withTiming
  · split
    · exact (State.Presents.refl s).withTiming.makeOverdue
    · exact (State.Presents.refl s).withTiming

/-- A section reset clears the record of its port and zeroes its counts (R170, R175). -/
theorem State.resetPort_presents (p : Port) : s.Presents (s.resetPort p) :=
  (State.Presents.refl s).modifyPort id fun _ => PortState.cleared_noticesSound _

theorem playoutReset_presents : s.Presents (playoutReset s).1 := by
  let zeroed := (s.resetPort .pp).withComposer { s.composer with
    governor := Governor.initial, late := 0, lateFrames := 0, dropped := 0 }
  have counts : (s.resetPort .pp).Presents zeroed :=
    { keeps := (State.Keeps.refl _).withComposer fun _ => Governor.initial_bounded
      line := rfl
      composer := fun _ _ ⟨idle, mailbox, composition, _⟩ =>
        ⟨idle, mailbox, composition, Nat.zero_le _, Nat.zero_le _, Nat.zero_le _⟩
      output := id
      notices := id }
  exact ((s.resetPort_presents .pp).trans counts).trans
    ((State.resetOutput_presents _).trans (State.resetTiming_presents _))

/-! ### The completion of a composition (R149) -/

/-- Withdrawing clears a flag, and sets none (R180). -/
theorem State.NoticesSound.withdrawGale {s : State} (h : s.NoticesSound) : s.withdrawGale.NoticesSound := by
  intro p
  obtain ⟨flags, counts⟩ := h.port p
  have hport : s.withdrawGale.ports.get p =
      { s.ports.get p with record := (s.ports.get p).record.withdraw .galeArea } := Ports.get_map _ _ p
  rw [hport]
  refine ⟨fun e hoff => ?_, counts⟩
  rw [NoticeRecord.get_withdraw, flags e hoff, Bool.and_false]

theorem State.NoticesSound.writeEvaluation {s : State} (h : s.NoticesSound) (cells : List CellResult) (b : Nat)
    (sums : List AreaSummary) : (s.writeEvaluation cells b sums).NoticesSound := by
  have raised {x : Evaluator} {c : Bool} : ((s.withEval x).raiseIf c .galeArea).NoticesSound := h.of_masked (by simp)
  unfold State.writeEvaluation
  dsimp only
  split
  · exact raised.withdrawGale
  · exact raised

theorem State.completeComposition_presents (x : Composition) : s.Presents (s.completeComposition x) := by
  refine ⟨s.completeComposition_keeps x, by simp, fun _ hb hc => ?_, fun h => ?_, fun h => ?_⟩
  · have governor : s.composer.governor.Bounded := ⟨hb.level, hb.lateWindow, hb.run⟩
    exact hc.completeComposition governor x
  · simp only [State.OutputPlays, State.safeHolds, State.completeComposition_frame]
    exact h
  · have written : (s.recordWritten x).NoticesSound :=
      State.NoticesSound.writeEvaluation (s := s.placeRecord x) (h.congr rfl) _ _ _
    rw [State.completeComposition_recordWritten]
    split
    · exact written.congr rfl
    · exact written

end Sys2Proof.Machine
end

section
/-! PROOFS. Every request, event and step keeps the rules of the output side (O20). -/

namespace Sys2Proof.Machine

variable (s : State)

/-! ### Requests -/

@[simp] theorem gridDefine_masked (c n : Nat) : (gridDefine c n s).1.ports.masked = s.ports.masked := by
  unfold gridDefine; (repeat' split) <;> simp

@[simp] theorem cellBlock_masked (r c n : Nat) (vs : List CellValue) :
    (cellBlock r c n vs s).1.ports.masked = s.ports.masked := by
  unfold cellBlock; (repeat' split) <;> simp

@[simp] theorem stepClose_masked : (stepClose s).1.ports.masked = s.ports.masked := by
  unfold stepClose; (repeat' split) <;> simp

@[simp] theorem feedSettings_masked (x : FeedFields) : (feedSettings x s).1.ports.masked = s.ports.masked := by
  simp [feedSettings]

@[simp] theorem coastBegin_masked : (coastBegin s).1.ports.masked = s.ports.masked := by
  simp [coastBegin]

@[simp] theorem cue_masked (n : Nat) (k : Option Nat) : (cue n k s).1.ports.masked = s.ports.masked := by
  unfold cue; (repeat' split) <;> simp

@[simp] theorem cueWithdraw_masked : (cueWithdraw s).1.ports.masked = s.ports.masked := by
  unfold cueWithdraw; split <;> simp

@[simp] theorem take_masked : (take s).1.ports.masked = s.ports.masked := by
  unfold take; (repeat' split) <;> simp

@[simp] theorem takeForce_masked : (takeForce s).1.ports.masked = s.ports.masked := by
  unfold takeForce; split <;> simp

/-- INGEST_RESET changes its port first, and after that raises at most FEED_RESTORED (R44). -/
theorem ingestReset_masked : (ingestReset s).1.ports.masked = (s.resetPort .ip).ports.masked := by
  unfold ingestReset
  dsimp only
  (repeat' split) <;> simp

theorem deskReset_ports : (deskReset s).1.ports = (s.resetPort .dp).ports := by
  simp [deskReset, State.resetPort]

/-- A NOTICE_MASK clears the flags of the groups it gives OFF, and a group OFF that it leaves alone holds none
(R179). -/
theorem noticeMask_noticesSound {s : State} (h : s.NoticesSound) (p : Port) (f : MaskFields) :
    (noticeMask p f s).1.NoticesSound := by
  unfold noticeMask
  split
  · exact h
  · refine h.modifyPort fun ⟨flags, counts⟩ => ⟨fun e hoff => ?_, counts⟩
    have hoff : (maskSetting f (noticeGroup e)).getD ((s.ports.get p).mask.get (noticeGroup e)) = .off := by
      rwa [NoticeMask.get_ofFn] at hoff
    rw [NoticeRecord.get_clearGroups]
    cases hset : maskSetting f (noticeGroup e) with
    | none =>
      rw [hset] at hoff
      rw [flags e hoff, Bool.and_false]
    | some g =>
      rw [hset] at hoff
      obtain rfl : g = .off := hoff
      simp

theorem handle_presents (p : Port) (r : Request) : s.Presents (handle p r s).1 := by
  have keeps := handle_keeps s p r
  cases r with
  | referenceSet c => exact referenceSet_presents s c
  | safeSet f c => exact safeSet_presents s f c
  | lineup f => exact lineup_presents s f
  | outputMode m => exact outputMode_presents s m
  | playoutReset => exact playoutReset_presents s
  | ingestReset =>
    exact .of_ports (t := (ingestReset s).1) keeps fun h =>
      ((s.resetPort_presents .ip).notices h).of_masked (ingestReset_masked s)
  | deskReset =>
    exact .of_ports (t := (deskReset s).1) keeps fun h =>
      ((s.resetPort_presents .dp).notices h).congr (deskReset_ports s)
  | noticeMask f =>
    exact .of_ports (t := (noticeMask p f s).1) keeps fun h => noticeMask_noticesSound h p f
  | statusRead =>
    exact State.Presents.modifyPort (p := p) (f := fun x => { x with resetSeen := false }) (.refl s) id id
  | noticeRead =>
    exact State.Presents.modifyPort (p := p) (f := fun x => { x with record := NoticeRecord.empty }) (.refl s) id
      fun ⟨_, counts⟩ => ⟨fun e _ => NoticeRecord.get_empty e, counts⟩
  | _ =>
    exact .of_raised keeps
      (by simp [handle]) (by simp [handle]) (by simp [handle]) (by simp [handle]) (by simp [handle])

/-! ### The link ports (R165, R166) -/

theorem takeFrame_presents (p : Port) (f : LinkFrame) : s.Presents (takeFrame p f s).1 := by
  unfold takeFrame
  split
  · exact .refl s
  · split
    · split
      · exact .refl s
      · exact handle_presents s p _
    · exact .refl s

/-- The reply of a request is a port's own matter. -/
theorem State.Presents.respond {s : State} {r : State × Answer} (h : s.Presents r.1) {p : Port} :
    s.Presents (respond p r) := h.modifyPort id id

theorem State.serve_presents (p : Port) (f : LinkFrame) : s.Presents (s.serve p f) := by
  unfold State.serve
  dsimp only
  exact (takeFrame_presents s p f).respond.modifyPort id id

theorem State.badCheck_presents (p : Port) : s.Presents (s.badCheck p) := by
  have counted : s.Presents (s.modifyPort p fun x => { x with linkErrors := sat16 (x.linkErrors + 1) }) :=
    (State.Presents.refl s).modifyPort id fun ⟨flags, _, overruns⟩ => ⟨flags, sat16_le _, overruns⟩
  unfold State.badCheck
  dsimp only
  split
  · exact counted.trans (.of_raised (State.erroredRecord_keeps _))
  · exact counted

/-- A frame is buffered only where there is room for it. -/
theorem State.takeOrBuffer_presents {p : Port} (h : (s.ports.get p).buffer.length < 2) (f : LinkFrame) :
    s.Presents (s.takeOrBuffer p f) := by
  unfold State.takeOrBuffer
  split
  · exact s.serve_presents p f
  · exact (State.Presents.refl s).modifyPort (fun _ => by rw [List.length_append]; exact h) id

theorem State.goodFrame_presents {p : Port} (h : (s.ports.get p).buffer.length < 2) (f : LinkFrame) :
    s.Presents (s.goodFrame p f) := by
  rw [State.goodFrame_eq]
  split
  · exact (State.Presents.of_raised s.goodIngestFrame_keeps).trans
      (State.takeOrBuffer_presents _ (by rwa [State.goodIngestFrame_buffer]) f)
  · exact s.takeOrBuffer_presents h f

theorem State.receive_presents (p : Port) (f : LinkFrame) : s.Presents (s.receive p f) := by
  have hunt : s.Presents (s.modifyPort p fun x => { x with receiver := .hunting }) :=
    (State.Presents.refl s).modifyPort id id
  unfold State.receive
  dsimp only
  split
  · exact hunt.trans (State.badCheck_presents _ p)
  · split
    · exact hunt.modifyPort id fun ⟨flags, linkErrors, _⟩ => ⟨flags, linkErrors, sat16_le _⟩
    · next hroom =>
      split
      · exact hunt.trans (State.goodFrame_presents _ (Nat.lt_of_not_le hroom) f)
      · exact hunt.trans (State.badCheck_presents _ p)

theorem State.endReply_presents (p : Port) : s.Presents (s.endReply p) := by
  unfold State.endReply
  dsimp only
  split
  · exact .refl s
  · exact (State.Presents.refl s).modifyPort id id
  · next f rest _ hbuffer =>
    refine State.Presents.trans ((State.Presents.refl s).modifyPort (fun h => ?_) id) (State.serve_presents _ p f)
    rw [hbuffer, List.length_cons] at h
    exact Nat.le_of_succ_le h

theorem State.abandonFrame_presents (p : Port) (os : List Octet) : s.Presents (s.abandonFrame p os) := by
  unfold State.abandonFrame
  split
  · exact ((State.Presents.refl s).modifyPort id id).trans (State.badCheck_presents _ p)
  · exact .refl s

/-! ### Commands and steps -/

/-- What a step keeps of the output side, the RESET line held or not. -/
structure State.KeepsOutput (s t : State) : Prop where
  composer : s.ShowSound → s.Bounded → s.ComposerSound → t.ComposerSound
  output : s.OutputSound → t.OutputSound
  notices : s.NoticesSound → t.NoticesSound

theorem State.KeepsOutput.refl : s.KeepsOutput s := ⟨fun _ _ => id, id, id⟩

/-- While the RESET line is released an operation that presents keeps the output side. -/
theorem State.Presents.keepsOutput {s t : State} (h : s.Presents t) (hr : s.resetLine = false) : s.KeepsOutput t := by
  refine ⟨h.composer, fun ho => ?_, h.notices⟩
  rw [State.outputSound_iff hr] at ho
  exact (State.outputSound_iff (h.line.trans hr)).2 (h.output ho)

/-- A frozen command is ignored while the RESET line is held (R185). -/
theorem unlessFrozen_keepsOutput {s t u : State} (h : s.Presents t) (hu : unlessFrozen s t = .next u) :
    s.KeepsOutput u := by
  cases hr : s.resetLine with
  | true =>
    rw [unlessFrozen_frozen s hr] at hu
    cases hu
    exact .refl _
  | false =>
    rw [unlessFrozen_eq s hr] at hu
    cases hu
    exact h.keepsOutput hr

theorem State.OutputSound.congr {s t : State} (h : s.OutputSound) (line : t.resetLine = s.resetLine)
    (safeLine : t.safeLine = s.safeLine) (output : t.output = s.output) : t.OutputSound := by
  obtain ⟨lineup, unkeyed, dormant, card, freeze, frozen⟩ := h
  constructor
  all_goals
    simp only [State.safeHolds, line, safeLine, output]
    assumption

/-- A change that the rules of the output side do not see. -/
theorem State.KeepsOutput.of_still {s t : State} (line : t.resetLine = s.resetLine := by rfl)
    (safeLine : t.safeLine = s.safeLine := by rfl) (composer : t.composer = s.composer := by rfl)
    (output : t.output = s.output := by rfl) (ports : t.ports = s.ports := by rfl) : s.KeepsOutput t :=
  ⟨fun _ _ h => h.congr composer, fun h => h.congr line safeLine output, fun h => h.congr ports⟩

/-- A restart leaves every block at its initial value; with the SAFE line asserted the fill is the STILL card (R186). -/
theorem State.restart_keepsOutput {s t : State} (c : ResetCause) : s.KeepsOutput (t.restart c) where
  composer _ _ _ :=
    { idle := fun _ => rfl
      mailbox := fun x hx => absurd hx (Option.some_ne_none x).symm
      composition := fun x hx => absurd hx (Option.some_ne_none x).symm
      counts := ⟨Nat.zero_le _, Nat.zero_le _, Nat.zero_le _⟩ }
  output _ := by
    refine (State.outputSound_iff rfl).2 ⟨fun _ => rfl, fun _ => rfl, fun _ => rfl, fun hsafe => ?_, fun _ => rfl⟩
    have hline : t.safeLine = true := by simpa [State.safeHolds, State.restart, OutputStage.initial] using hsafe
    simp [State.restart, OutputStage.initial, hline, Fill.isSafeCard]
  notices _ p := by
    have hport : (t.restart c).ports.get p = PortState.initial := by cases p <;> rfl
    rw [hport]
    exact ⟨fun e _ => NoticeRecord.get_empty e, Nat.zero_le _, Nat.zero_le _⟩

/-- With the RESET line asserted the fill and the key carry nothing (R185). -/
theorem resetLineAssertion_keepsOutput {t : State} (h : exec .resetLineAssertion s = .next t) : s.KeepsOutput t := by
  rcases unlessFrozen_next h with rfl | rfl
  · exact .refl t
  · refine ⟨fun _ _ hc => hc.congr rfl, fun ho => ?_, fun hn p => ?_⟩
    · exact
        { lineup := ho.lineup
          unkeyed := fun _ => rfl
          dormant := fun _ => rfl
          safe := fun hreleased => absurd hreleased nofun
          freeze := fun hreleased => absurd hreleased nofun
          frozen := fun _ => ⟨rfl, rfl⟩ }
    · have hport := hn.port p
      cases p <;> exact hport

/-- The SAFE line's change enters or leaves safe; while the RESET line is held it is not taken (R157, R185). -/
theorem safeLineChange_keepsOutput {t : State} {b : Bool} (h : exec (.safeLineChange b) s = .next t) :
    s.KeepsOutput t := by
  cases hr : s.resetLine with
  | true =>
    obtain rfl : { s with safeLine := b } = t := by simpa [exec, execSafeLineChange, hr] using h
    refine ⟨fun _ _ hc => hc.congr rfl, fun ho => ?_, fun hn => hn.congr rfl⟩
    exact
      { lineup := ho.lineup
        unkeyed := ho.unkeyed
        dormant := ho.dormant
        safe := fun hreleased => absurd (hr.symm.trans hreleased) nofun
        freeze := fun hreleased => absurd (hr.symm.trans hreleased) nofun
        frozen := ho.frozen }
  | false =>
    obtain rfl : State.safeChanged { s with safeLine := b } s.safeHolds = t := by
      simpa [exec, execSafeLineChange, hr] using h
    refine ⟨fun _ _ hc => hc.congr (by simp), fun ho => ?_, fun hn => hn.of_masked (by simp)⟩
    rw [State.outputSound_iff hr] at ho
    exact (State.outputSound_iff (by simpa using hr)).2
      (State.safeChanged_outputPlays (s := { s with safeLine := b }) ho)

theorem State.tick_keepsOutput : s.KeepsOutput s.tick :=
  ⟨fun _ _ h => h.congr (by simp), fun h => h.congr (by simp) (by simp) (by simp), fun h => h.of_masked (by simp)⟩

theorem exec_keepsOutput {c : Instr} {t : State} (h : exec c s = .next t) : s.KeepsOutput t := by
  have clock (n : Nat) : s.Presents (s.at n) := (State.Presents.refl s).at
  cases hr : c.request? with
  | some r =>
    obtain ⟨p, n, hp⟩ := exec_request s hr
    rw [hp] at h
    exact unlessFrozen_keepsOutput ((clock n).trans (handle_presents _ p r).respond) h
  | none =>
    cases c with
    | powerOn n =>
      cases h
      split
      · exact .of_still
      · exact State.restart_keepsOutput _
    | resetLineRelease n =>
      cases h
      split
      · exact State.restart_keepsOutput _
      · exact .refl s
    | resetLineAssertion => exact resetLineAssertion_keepsOutput s h
    | safeLineChange b => exact safeLineChange_keepsOutput s h
    | linkFrameReceived p f n =>
      exact unlessFrozen_keepsOutput ((clock n).trans (State.receive_presents _ p f)) h
    | replySent p n => exact unlessFrozen_keepsOutput ((clock n).trans (State.endReply_presents _ p)) h
    | framingError p len =>
      refine unlessFrozen_keepsOutput ?_ h
      split
      · exact s.abandonFrame_presents p _
      · exact .refl s
    | frameGapTimeout p => exact unlessFrozen_keepsOutput (s.abandonFrame_presents p _) h
    | startOctet p => exact unlessFrozen_keepsOutput ((State.Presents.refl s).modifyPort id id) h
    | drainCompletion =>
      refine unlessFrozen_keepsOutput ?_ h
      split
      · exact .of_raised (s.completeDrain_keeps _)
      · exact .refl s
    | windowEnd =>
      refine unlessFrozen_keepsOutput ?_ h
      split
      · exact .of_raised ((s.passSeconds_keeps _).trans (State.endWindow_keeps _))
      · exact .refl s
    | staleTimerExpiry =>
      refine unlessFrozen_keepsOutput ?_ h
      split
      · exact .of_raised ((s.passSeconds_keeps _).trans (State.expireStale_keeps _))
      · exact .refl s
    | windowCutCompletion place => exact unlessFrozen_keepsOutput (.of_raised (s.completeCut_keeps place)) h
    | frefPulse n =>
      refine unlessFrozen_keepsOutput ?_ h
      split
      · exact (clock n).trans (State.wakingPulse_presents _)
      · exact (clock n).trans (State.pulse_presents _)
    | internalFrameStart =>
      refine unlessFrozen_keepsOutput ?_ h
      split
      · exact s.internalFrameStart_presents _
      · exact .refl s
    | holdoverEnd =>
      refine unlessFrozen_keepsOutput ?_ h
      split
      · split
        · exact s.internalFrameStart_presents _
        · exact .refl s
      · exact .refl s
    | acquiringSilenceExpiry =>
      refine unlessFrozen_keepsOutput ?_ h
      split
      · exact (clock _).withTiming.raise
      · exact .refl s
    | refLost =>
      refine unlessFrozen_keepsOutput ?_ h
      split
      · exact (clock _).withTiming.raise.frameStart
      · exact .refl s
    | lateFrames n | detailRecovered n =>
      refine unlessFrozen_keepsOutput ?_ h
      split
      · exact s.nextFrameStart_presents n
      · exact .refl s
    | compositionCompletion =>
      refine unlessFrozen_keepsOutput ?_ h
      split
      · exact s.completeComposition_presents _
      · exact .refl s
    | _ => cases hr

theorem step_keepsOutput {t : State} (h : step s = .next t) : s.KeepsOutput t := by
  cases hp : s.pending with
  | nil =>
    rw [step_nil s hp] at h
    cases h
    exact s.tick_keepsOutput
  | cons c rest =>
    rw [step_cons s hp] at h
    obtain ⟨composer, output, notices⟩ := exec_keepsOutput (s.withPending rest) h
    have front : s.Keeps (s.withPending rest) := .of_still rfl
    exact ⟨fun hs hb hc => composer (front.shows hs) (front.bounded hb) (hc.congr rfl),
      fun ho => output (ho.congr rfl rfl rfl), fun hn => notices (hn.congr rfl)⟩

/-- Settles O20: a step is a tick of the seconds timebase or a command, and each keeps the output side. -/
theorem outputSideStaysSound : Obligations.OutputSideStaysSound :=
  ⟨fun s _ hs hb hc h => (step_keepsOutput s h).composer hs hb hc, fun s _ ho h => (step_keepsOutput s h).output ho,
    fun s _ hn h => (step_keepsOutput s h).notices hn⟩

end Sys2Proof.Machine
end

section
/-! PROOFS. The payload encodings (O7): every field read back from its octets, whatever octets follow, and so every
request. -/

namespace Sys2Proof

/-- `take` reads back what `octets` writes of every value that fits its carrier, and leaves the octets that follow. -/
def ReadsBack {α : Type} (take : List Octet → Option (α × List Octet)) (octets : α → List Octet)
    (fits : α → Bool) : Prop :=
  ∀ a, fits a = true → ∀ rest, take (octets a ++ rest) = some (a, rest)

/-- One field of a payload read back: the fields after it are read from the octets that follow. -/
theorem ReadsBack.bind {α β : Type} {take : List Octet → Option (α × List Octet)} {octets : α → List Octet}
    {fits : α → Bool} (h : ReadsBack take octets fits) {a : α} (ha : fits a = true) (rest : List Octet)
    (k : α × List Octet → Option β) : (take (octets a ++ rest) >>= k) = k (a, rest) := by
  rw [h a ha]; rfl

/-! ### Fields (R164) -/

theorem fitsNum_iff {n : Nat} : fitsNum n = true ↔ n < 65536 := decide_eq_true_iff

theorem fitsInt_iff {i : Int} : fitsInt i = true ↔ -32768 ≤ i ∧ i ≤ 32767 := by simp [fitsInt]

theorem takeCode_readsBack : ReadsBack takeCode codeOctets fitsCode := by
  intro n h rest
  have hn : n < 256 := decide_eq_true_iff.1 h
  simp [codeOctets, takeCode, Nat.mod_eq_of_lt hn]

@[simp] theorem takeFlag_flagOctets (b : Bool) (rest : List Octet) :
    takeFlag (flagOctets b ++ rest) = some (b, rest) := by
  cases b <;> rfl

theorem takeNum_readsBack : ReadsBack takeNum numOctets fitsNum := by
  intro n h rest
  have hn : n < 65536 := fitsNum_iff.1 h
  have hjoin : n / 256 % 256 * 256 + n % 256 = n := by omega
  simp [numOctets, takeNum, hjoin]

theorem takeInt_readsBack : ReadsBack takeInt intOctets fitsInt := by
  intro i h rest
  obtain ⟨hlow, hhigh⟩ := fitsInt_iff.1 h
  have hread := takeNum_readsBack (i % 65536).toNat (fitsNum_iff.2 (by omega)) rest
  have hsign : (if (i % 65536).toNat < 32768 then (((i % 65536).toNat : Nat) : Int)
      else ((i % 65536).toNat : Int) - 65536) = i := by
    split <;> omega
  rw [takeInt, intOctets, hread, Option.map_some, hsign]

theorem takeLong_longOctets {n : Nat} (h : n < 4294967296) (rest : List Octet) :
    takeLong (longOctets n ++ rest) = some (n, rest) := by
  have hhigh := takeNum_readsBack (n / 65536) (fitsNum_iff.2 (by omega))
  have hlow := takeNum_readsBack (n % 65536) (fitsNum_iff.2 (by omega))
  have hoctets : numOctets n = numOctets (n % 65536) := by
    simp only [numOctets, List.cons.injEq, and_true]
    constructor <;> (apply BitVec.eq_of_toNat_eq; simp only [BitVec.toNat_ofNat]; omega)
  simp [takeLong, longOctets, hoctets, hhigh, hlow, Nat.div_add_mod']

@[simp] theorem takeLayers_layerOctet (l : LayerSet) (rest : List Octet) :
    takeLayers (layerOctet l :: rest) = some (l, rest) := by
  obtain ⟨coast, wind, tide, trend, areas, summaries, feedMark⟩ := l
  have hbits : ∀ a b c d e f g : Bool,
      let o := layerOctet ⟨a, b, c, d, e, f, g⟩
      (⟨o.getLsbD 0, o.getLsbD 1, o.getLsbD 2, o.getLsbD 3, o.getLsbD 4, o.getLsbD 5, o.getLsbD 6⟩ : LayerSet)
        = ⟨a, b, c, d, e, f, g⟩ := by decide
  rw [takeLayers, hbits]

theorem takeLayers_readsBack : ReadsBack takeLayers (fun l => [layerOctet l]) fun _ => true :=
  fun l _ => takeLayers_layerOctet l

section Items

variable {α : Type} {item : List Octet → Option (α × List Octet)} {octets : α → List Octet} {fits : α → Bool}

theorem takeOpt_readsBack (h : ReadsBack item octets fits) :
    ReadsBack (takeOpt item) (optOctets octets) (Option.all fits) := by
  intro o ho rest
  cases o with
  | none => rfl
  | some a =>
    have ha := h a ho rest
    simp [takeOpt, optOctets, takeFlag, ha]

theorem takeMany_readsBack (h : ReadsBack item octets fits) {xs : List α} (hxs : xs.all fits = true)
    (rest : List Octet) : takeMany item xs.length (xs.flatMap octets ++ rest) = some (xs, rest) := by
  induction xs with
  | nil => rfl
  | cons x xs ih =>
    obtain ⟨hx, hxs⟩ := Bool.and_eq_true_iff.1 hxs
    simp [takeMany, h x hx, ih hxs]

theorem takeList_readsBack (h : ReadsBack item octets fits) :
    ReadsBack (takeList item) (listOctets octets) (fitsList · fits) := by
  intro xs hxs rest
  obtain ⟨hlength, hall⟩ := Bool.and_eq_true_iff.1 hxs
  have hcode := takeCode_readsBack xs.length hlength (xs.flatMap octets ++ rest)
  have hmany := takeMany_readsBack h hall rest
  rw [codeOctets, List.singleton_append] at hcode
  simp [takeList, listOctets, hcode, hmany]

end Items

/-! ### Records of fields (R26, R42, R48, R53, R88, R92, R179) -/

theorem takeWind_readsBack : ReadsBack takeWind windOctets fun w => fitsInt w.u && fitsInt w.v := by
  intro w h rest
  simp only [Bool.and_eq_true] at h
  simp [takeWind, windOctets, takeInt_readsBack _ h.1, takeInt_readsBack _ h.2]

theorem takeCellValue_readsBack : ReadsBack takeCellValue cellValueOctets CellValue.fits := by
  intro c h rest
  simp only [CellValue.fits, Bool.and_eq_true] at h
  obtain ⟨hwind, htide⟩ := h
  simp [takeCellValue, cellValueOctets, takeOpt_readsBack takeWind_readsBack _ hwind,
    takeOpt_readsBack takeInt_readsBack _ htide]

theorem takeVertex_readsBack : ReadsBack takeVertex vertexOctets Vertex.fits := by
  intro v h rest
  simp only [Vertex.fits, Bool.and_eq_true] at h
  simp [takeVertex, vertexOctets, takeInt_readsBack _ h.1, takeInt_readsBack _ h.2]

theorem takeMapEntry_readsBack : ReadsBack takeMapEntry mapEntryOctets MapEntry.fits := by
  intro e h rest
  simp [takeMapEntry, mapEntryOctets, takeNum_readsBack _ h]

theorem takeTarget_readsBack : ReadsBack takeTarget targetOctets fun p => fitsNum p.1 && fitsNum p.2 := by
  intro p h rest
  simp only [Bool.and_eq_true] at h
  simp [takeTarget, targetOctets, takeNum_readsBack _ h.1, takeNum_readsBack _ h.2]

theorem takeOptCode_readsBack : ReadsBack (takeOpt takeCode) (optOctets codeOctets) (Option.all fitsCode) :=
  takeOpt_readsBack takeCode_readsBack

theorem takeOptNum_readsBack : ReadsBack (takeOpt takeNum) (optOctets numOctets) (Option.all fitsNum) :=
  takeOpt_readsBack takeNum_readsBack

theorem takeFeedFields_readsBack : ReadsBack takeFeedFields feedFieldsOctets FeedFields.fits := by
  intro f h rest
  simp only [FeedFields.fits, Bool.and_eq_true] at h
  obtain ⟨⟨⟨hwindow, htarget⟩, hcoverage⟩, htimeout⟩ := h
  simp [takeFeedFields, feedFieldsOctets, takeOptCode_readsBack _ hwindow,
    takeOpt_readsBack takeTarget_readsBack _ htarget, takeOptNum_readsBack _ hcoverage,
    takeOptNum_readsBack _ htimeout]

theorem takeBandFields_readsBack : ReadsBack takeBandFields bandFieldsOctets BandFields.fits := by
  intro f h rest
  simp only [BandFields.fits, Bool.and_eq_true] at h
  obtain ⟨⟨⟨⟨⟨⟨hforce, htide⟩, hforceHyst⟩, htideHyst⟩, hslack⟩, hgale⟩, hmode⟩ := h
  simp only [bandFieldsOctets, List.append_assoc]
  exact ((takeOpt_readsBack (takeList_readsBack takeNum_readsBack)).bind hforce _ _).trans <|
    ((takeOpt_readsBack (takeList_readsBack takeInt_readsBack)).bind htide _ _).trans <|
    (takeOptNum_readsBack.bind hforceHyst _ _).trans <| (takeOptNum_readsBack.bind htideHyst _ _).trans <|
    (takeOptNum_readsBack.bind hslack _ _).trans <| (takeOptNum_readsBack.bind hgale _ _).trans
      (takeOptCode_readsBack.bind hmode _ _)

theorem takePageFields_readsBack : ReadsBack takePageFields pageFieldsOctets PageFields.fits := by
  intro f h rest
  simp only [PageFields.fits, Bool.and_eq_true] at h
  obtain ⟨⟨⟨⟨⟨⟨⟨⟨⟨hcol, hrow⟩, hwidth⟩, hheight⟩, hstride⟩, hfirst⟩, hlast⟩, hframes⟩, hend⟩, hstart⟩ := h
  simp only [pageFieldsOctets, List.append_assoc]
  exact (takeNum_readsBack.bind hcol _ _).trans <| (takeNum_readsBack.bind hrow _ _).trans <|
    (takeNum_readsBack.bind hwidth _ _).trans <| (takeNum_readsBack.bind hheight _ _).trans <|
    (takeNum_readsBack.bind hstride _ _).trans <| (takeLayers_readsBack.bind rfl _ _).trans <|
    (takeNum_readsBack.bind hfirst _ _).trans <| (takeNum_readsBack.bind hlast _ _).trans <|
    (takeNum_readsBack.bind hframes _ _).trans <| (takeCode_readsBack.bind hend _ _).trans
      (takeOptNum_readsBack.bind hstart _ _)

theorem takeMaskFields_readsBack : ReadsBack takeMaskFields maskFieldsOctets MaskFields.fits := by
  intro f h rest
  simp only [MaskFields.fits, Bool.and_eq_true] at h
  obtain ⟨⟨⟨⟨hfeed, hshows⟩, halert⟩, htiming⟩, houtput⟩ := h
  simp [takeMaskFields, maskFieldsOctets, takeOptCode_readsBack _ hfeed, takeOptCode_readsBack _ hshows,
    takeOptCode_readsBack _ halert, takeOptCode_readsBack _ htiming, takeOptCode_readsBack _ houtput]

/-! ### The request catalogue (8.6) -/

/-- The fields of a request are read back, and the octets after them are left. -/
theorem takeRequest_encodeRequest {r : Request} (h : r.wellFormed = true) (rest : List Octet) :
    takeRequest (requestKind r) (encodeRequest r ++ rest) = some (r, rest) := by
  cases r with
  | gridDefine c n | areaMapBegin c n =>
    simp only [Request.wellFormed, Bool.and_eq_true] at h
    simp [takeRequest, requestKind, encodeRequest, takeNum_readsBack _ h.1, takeNum_readsBack _ h.2]
  | stepDrop n | pageRead n | insert n | jump n =>
    simp [takeRequest, requestKind, encodeRequest, takeNum_readsBack _ h]
  | referenceSet n | lineup n | outputMode n =>
    simp [takeRequest, requestKind, encodeRequest, takeCode_readsBack _ h]
  | stepOpen hour fieldSet warnings =>
    simp only [Request.wellFormed, Bool.and_eq_true] at h
    obtain ⟨⟨hhour, hset⟩, hwarnings⟩ := h
    simp [takeRequest, requestKind, encodeRequest, takeNum_readsBack _ hhour, takeCode_readsBack _ hset,
      takeList_readsBack takeNum_readsBack _ hwarnings]
  | cellBlock row col n values =>
    simp only [Request.wellFormed, Bool.and_eq_true, beq_iff_eq] at h
    obtain ⟨⟨⟨⟨hrow, hcol⟩, hn⟩, rfl⟩, hvalues⟩ := h
    simp [takeRequest, requestKind, encodeRequest, takeNum_readsBack _ hrow, takeNum_readsBack _ hcol,
      takeNum_readsBack _ hn, takeMany_readsBack takeCellValue_readsBack hvalues]
  | areaMapRow row col n entries =>
    simp only [Request.wellFormed, Bool.and_eq_true, beq_iff_eq] at h
    obtain ⟨⟨⟨⟨hrow, hcol⟩, hn⟩, rfl⟩, hentries⟩ := h
    simp [takeRequest, requestKind, encodeRequest, takeNum_readsBack _ hrow, takeNum_readsBack _ hcol,
      takeNum_readsBack _ hn, takeMany_readsBack takeMapEntry_readsBack hentries]
  | cellRead row col n =>
    simp only [Request.wellFormed, Bool.and_eq_true] at h
    obtain ⟨⟨hrow, hcol⟩, hn⟩ := h
    simp [takeRequest, requestKind, encodeRequest, takeNum_readsBack _ hrow, takeNum_readsBack _ hcol,
      takeNum_readsBack _ hn]
  | feedSettings f => simp [takeRequest, requestKind, encodeRequest, takeFeedFields_readsBack _ h]
  | bandsWrite f => simp [takeRequest, requestKind, encodeRequest, takeBandFields_readsBack _ h]
  | noticeMask f => simp [takeRequest, requestKind, encodeRequest, takeMaskFields_readsBack _ h]
  | pageWrite page f =>
    simp only [Request.wellFormed, Bool.and_eq_true] at h
    simp [takeRequest, requestKind, encodeRequest, takeNum_readsBack _ h.1, takePageFields_readsBack _ h.2]
  | pageLayers mask layers => simp [takeRequest, requestKind, encodeRequest, takeLong_longOctets mask.isLt]
  | coastLineNew kind closed vertices =>
    simp only [Request.wellFormed, Bool.and_eq_true] at h
    simp [takeRequest, requestKind, encodeRequest, takeCode_readsBack 0 rfl, takeCode_readsBack _ h.1,
      takeList_readsBack takeVertex_readsBack _ h.2]
  | coastLineContinue vertices =>
    simp [takeRequest, requestKind, encodeRequest, takeCode_readsBack 1 rfl,
      takeList_readsBack takeVertex_readsBack _ h]
  | cue page start =>
    simp only [Request.wellFormed, Bool.and_eq_true] at h
    simp [takeRequest, requestKind, encodeRequest, takeNum_readsBack _ h.1, takeOptNum_readsBack _ h.2]
  | safeSet flag card =>
    simp only [Request.wellFormed, Bool.and_eq_true] at h
    simp [takeRequest, requestKind, encodeRequest, takeCode_readsBack _ h.1, takeOptCode_readsBack _ h.2]
  | _ => rfl

/-- Settles O7: the fields are read back with nothing after them. -/
theorem requestRoundTrip : Obligations.RequestRoundTrip := by
  intro r h
  have hread := takeRequest_encodeRequest h []
  rw [List.append_nil] at hread
  rw [decodeRequest, hread]

end Sys2Proof
end

section
/-! PROOFS. The link ports: a frame taken at once (O8); the receiver, the buffer and the end of a reply (O9). -/

namespace Sys2Proof.Machine

/-! ### The check of a request at its port (R167, R168) -/

/-- Kind 0 and the kinds of replies, 0x80 and above, are no request's. -/
theorem kindPorts_eq_none {k : Nat} (h : k = 0 ∨ 0x80 ≤ k) : kindPorts k = none := by
  unfold kindPorts
  iterate 4 rw [if_neg (by omega)]

theorem takeFrame_badKind {f : LinkFrame} (h : kindPorts f.kind.toNat = none) (p : Port) (s : State) :
    takeFrame p f s = (s, ⟨.badKind, []⟩) := by
  rw [takeFrame, h]; rfl

theorem takeFrame_wrongPort {p : Port} {f : LinkFrame} {ps : List Port} (h : kindPorts f.kind.toNat = some ps)
    (hp : p ∉ ps) (s : State) : takeFrame p f s = (s, ⟨.wrongPort, []⟩) := by
  rw [takeFrame, h]; exact if_neg hp

theorem takeFrame_rightPort {p : Port} {f : LinkFrame} {ps : List Port} (h : kindPorts f.kind.toNat = some ps)
    (hp : p ∈ ps) (s : State) :
    takeFrame p f s = match decodeRequest f.kind.toNat f.payload with
      | none => (s, ⟨.badLength, []⟩)
      | some r => handle p r s := by
  rw [takeFrame, h]; exact if_pos hp

/-- A request is checked for its kind, its port and its payload, in that order (R167). -/
theorem takeFrame_eq (p : Port) (f : LinkFrame) (s : State) :
    takeFrame p f s =
      if f.kind.toNat = 0 ∨ 0x80 ≤ f.kind.toNat ∨ kindPorts f.kind.toNat = none then (s, ⟨.badKind, []⟩)
      else if p ∉ (kindPorts f.kind.toNat).getD [] then (s, ⟨.wrongPort, []⟩)
      else match decodeRequest f.kind.toNat f.payload with
        | none => (s, ⟨.badLength, []⟩)
        | some r => handle p r s := by
  cases h : kindPorts f.kind.toNat with
  | none => rw [takeFrame_badKind h, if_pos (.inr (.inr rfl))]
  | some ps =>
    have hkind : ¬(f.kind.toNat = 0 ∨ 0x80 ≤ f.kind.toNat ∨ some ps = none) := by
      rintro (hk | hk | hk)
      · exact absurd (h.symm.trans (kindPorts_eq_none (.inl hk))) nofun
      · exact absurd (h.symm.trans (kindPorts_eq_none (.inr hk))) nofun
      · exact absurd hk nofun
    rw [if_neg hkind, Option.getD_some]
    by_cases hp : p ∈ ps
    · rw [if_neg (not_not_intro hp), takeFrame_rightPort h hp]
    · rw [if_pos hp, takeFrame_wrongPort h hp]

/-! ### Ports -/

/-- While the RESET line is released a command has its effect (R185). -/
theorem unlessFrozen_effect {s t u : State} (hr : s.resetLine = false) (h : t = u) : unlessFrozen s t = .next u :=
  h ▸ unlessFrozen_eq s hr

variable (s : State)

theorem State.modifyPort_modifyPort (p : Port) (f g : PortState → PortState) :
    (s.modifyPort p f).modifyPort p g = s.modifyPort p fun x => g (f x) := by
  simp [State.modifyPort]

theorem State.goodIngestFrame_serving (p : Port) :
    (s.goodIngestFrame.ports.get p).serving = (s.ports.get p).serving := by
  unfold State.goodIngestFrame
  dsimp only
  split
  · simp [PortState.raise]
  · rfl

/-- A frame that finds its port idle and its buffer empty is taken at once (R166). -/
theorem State.takeOrBuffer_idle {p : Port} (hserving : (s.ports.get p).serving = none)
    (hbuffer : (s.ports.get p).buffer = []) (f : LinkFrame) : s.takeOrBuffer p f = s.serve p f :=
  if_pos ⟨Option.isNone_iff_eq_none.2 hserving, hbuffer⟩

/-- Any other frame joins the buffer (R166). -/
theorem State.takeOrBuffer_busy {p : Port} (h : (s.ports.get p).serving ≠ none ∨ (s.ports.get p).buffer ≠ [])
    (f : LinkFrame) : s.takeOrBuffer p f = s.modifyPort p fun y => { y with buffer := y.buffer ++ [f] } :=
  if_neg fun ⟨hserving, hbuffer⟩ => h.elim (absurd (Option.isNone_iff_eq_none.1 hserving)) (absurd hbuffer)

/-- The restart of the stale timer leaves the ports' service alone. -/
theorem State.restarted_service (p : Port) :
    ((if p = .ip then s.goodIngestFrame else s).ports.get p).serving = (s.ports.get p).serving
    ∧ ((if p = .ip then s.goodIngestFrame else s).ports.get p).buffer = (s.ports.get p).buffer := by
  split
  · exact ⟨s.goodIngestFrame_serving p, s.goodIngestFrame_buffer p⟩
  · exact ⟨rfl, rfl⟩

/-! ### A frame received whole (R165, R166) -/

section Receive

variable {p : Port} {f : LinkFrame} (hsize : f.payload.length ≤ 1018)

include hsize

theorem State.receive_overrun (hfull : 2 ≤ (s.ports.get p).buffer.length) :
    s.receive p f = (s.modifyPort p fun x => { x with receiver := .hunting }).modifyPort p fun y =>
      { y with overruns := min 65535 (y.overruns + 1) } := by
  rw [State.receive, if_neg hsize.not_gt, if_pos (by simpa using hfull)]; rfl

theorem State.receive_badCheck (hroom : (s.ports.get p).buffer.length < 2)
    (hcheck : f.check ≠ frameCheck f.kind f.tag f.payload) :
    s.receive p f = (s.modifyPort p fun x => { x with receiver := .hunting }).badCheck p := by
  rw [State.receive, if_neg hsize.not_gt, if_neg (by simpa using hroom), if_neg hcheck]

theorem State.receive_goodCheck (hroom : (s.ports.get p).buffer.length < 2)
    (hcheck : f.check = frameCheck f.kind f.tag f.payload) :
    let s₀ := s.modifyPort p fun x => { x with receiver := .hunting }
    s.receive p f = (if p = .ip then s₀.goodIngestFrame else s₀).takeOrBuffer p f := by
  rw [State.receive, if_neg hsize.not_gt, if_neg (by simpa using hroom), if_pos hcheck, State.goodFrame_eq]

end Receive

/-- Settles O8: a frame that finds room and passes its check is taken by its idle port. -/
theorem frameTakesItsRequest : Obligations.FrameTakesItsRequest := by
  intro p f t s hr hsize hcheck hserving hbuffer s₀ s₁ a
  have hreceive : (s.at t).receive p f = s₁.takeOrBuffer p f :=
    State.receive_goodCheck _ hsize (by simp [hbuffer]) hcheck
  obtain ⟨hserving₁, hbuffer₁⟩ := s₀.restarted_service p
  have hidle : s₁.takeOrBuffer p f = s₁.serve p f :=
    State.takeOrBuffer_idle _ (hserving₁.trans (by simpa [s₀] using hserving))
      (hbuffer₁.trans (by simpa [s₀] using hbuffer)) f
  have ha : takeFrame p f s₁ = a := takeFrame_eq p f s₁
  refine unlessFrozen_effect hr ?_
  rw [hreceive, hidle, State.serve, ha]
  rfl

/-! ### A frame abandoned (R165) -/

/-- The octet 0xC3 among the two of a length field. -/
theorem huntThrough_numOctets (n : Nat) :
    huntThrough (numOctets n) = if n / 256 % 256 = 0xC3 ∨ n % 256 = 0xC3 then .receiving else .hunting := by
  have octet (k : Nat) : 0xC3#8 = BitVec.ofNat 8 k ↔ k % 256 = 0xC3 := by
    rw [← BitVec.toNat_inj, BitVec.toNat_ofNat]
    exact eq_comm
  simp only [huntThrough, numOctets, List.mem_cons, List.not_mem_nil, or_false, octet]

theorem State.abandonFrame_receiving {p : Port} (h : (s.ports.get p).receiver = .receiving) (again : List Octet) :
    let s₁ := s.modifyPort p fun x =>
      { x with receiver := huntThrough again, linkErrors := min 65535 (x.linkErrors + 1) }
    s.abandonFrame p again = if p = .ip then s₁.erroredRecord else s₁ := by
  rw [State.abandonFrame, if_pos h, State.badCheck, State.modifyPort_modifyPort]
  rfl

theorem State.abandonFrame_hunting {p : Port} (h : (s.ports.get p).receiver = .hunting) (again : List Octet) :
    s.abandonFrame p again = s :=
  if_neg (by rw [h]; nofun)

/-! ### The end of a reply (R166) -/

theorem State.endReply_none {p : Port} (h : (s.ports.get p).serving = none) : s.endReply p = s := by
  rw [State.endReply, h]

theorem State.endReply_idle {p : Port} {r : ReplyFrame} (h : (s.ports.get p).serving = some r)
    (hbuffer : (s.ports.get p).buffer = []) :
    s.endReply p = s.modifyPort p fun x => { x with serving := none } := by
  rw [State.endReply, h, hbuffer]

theorem State.endReply_next {p : Port} {r : ReplyFrame} {f : LinkFrame} {rest : List LinkFrame}
    (h : (s.ports.get p).serving = some r) (hbuffer : (s.ports.get p).buffer = f :: rest) :
    s.endReply p = (s.modifyPort p fun x => { x with buffer := rest }).serve p f := by
  rw [State.endReply, h, hbuffer]

/-- Settles O9: a frame by the room in the buffer, its check and the port's service; a frame abandoned by the
receiver; the end of a reply by the buffer. -/
theorem portEventsJudged : Obligations.PortEventsJudged := by
  refine ⟨?_, ?_, ?_⟩
  · intro p f t s hr hsize x s₀
    refine ⟨fun hfull => unlessFrozen_effect hr (State.receive_overrun _ hsize hfull),
      fun hroom hcheck => unlessFrozen_effect hr (State.receive_badCheck _ hsize hroom hcheck),
      fun hroom hcheck hbusy => unlessFrozen_effect hr ?_⟩
    obtain ⟨hserving, hbuffer⟩ := s₀.restarted_service p
    refine (State.receive_goodCheck (s.at t) hsize hroom hcheck).trans (State.takeOrBuffer_busy _ ?_ f)
    rw [hserving, hbuffer]
    simpa [s₀] using hbusy
  · intro p s hr abandoned
    refine ⟨unlessFrozen_effect hr rfl,
      fun hreceiving => ⟨unlessFrozen_effect hr (s.abandonFrame_receiving hreceiving []),
        fun n hn => unlessFrozen_effect hr ?_⟩,
      fun n hn => unlessFrozen_effect hr (if_neg (by omega)),
      fun hhunting => ⟨unlessFrozen_effect hr (s.abandonFrame_hunting hhunting []),
        fun n => unlessFrozen_effect hr ?_⟩⟩
    · rw [if_pos hn, s.abandonFrame_receiving hreceiving, huntThrough_numOctets]
    · rw [s.abandonFrame_hunting hhunting, ite_self]
  · intro p t s hr s₀
    exact ⟨fun hnone => unlessFrozen_effect hr (State.endReply_none _ hnone),
      fun r hserving hbuffer => unlessFrozen_effect hr (State.endReply_idle _ hserving hbuffer),
      fun r f rest hserving hbuffer => unlessFrozen_effect hr (State.endReply_next _ hserving hbuffer)⟩

end Sys2Proof.Machine
end

section
/-! PROOFS. STATUS_READ and NOTICE_READ (O12): their replies written out field by field. -/

namespace Sys2Proof.Machine

/-! ### What a status reply reports (R172) -/

theorem cardCode_eq (c : Card) : cardCode c = if c = .still then 0 else 1 := by cases c <;> rfl

/-- A count of the late outcomes of a window. -/
theorem lateCount_eq_count (w : List FrameOutcome) : lateCount w = w.count .late := by
  simp only [lateCount, List.count_eq_countP, List.countP_eq_length_filter]
  exact congrArg _ (List.filter_congr fun o _ => by cases o <;> rfl)

/-- The slots counted by their numbers, or as they stand in the store. -/
theorem FieldStore.countSlots_eq (f : FieldStore) (q : Slot → Bool) :
    ((List.finRange 16).filter fun i => q (f.slot i)).length = f.slots.toList.countP q := by
  have hslots : f.slots.toList = (List.finRange 16).map f.slot := by
    refine List.ext_getElem (by simp) fun i h₁ h₂ => ?_
    simp [FieldStore.slot]
  rw [hslots, List.countP_map, List.countP_eq_length_filter]
  rfl

/-! ### A cleared record (R176, R178) -/

theorem NoticeRecord.holdsSetting_empty (m : NoticeMask) (g : Setting) :
    NoticeRecord.empty.holdsSetting m g = false := by
  simp [NoticeRecord.holdsSetting]

theorem State.attention_empty {t : State} {p : Port} (h : (t.ports.get p).record = NoticeRecord.empty) :
    t.attention p = false := by
  simp [State.attention, h, NoticeRecord.holdsAny]

/-- The header of a reply on a port whose record is clear has both pending flags clear. -/
theorem statusHeader_cleared {t : State} {p : Port} (h : (t.ports.get p).record = NoticeRecord.empty) :
    (statusHeader t p).urgent = false ∧ (statusHeader t p).routine = false := by
  simp [statusHeader, h, NoticeRecord.holdsSetting_empty]

/-- Settles O12: on both sides a status reply is put in one form, its fields in a row (`delta`, since the equation lemma
of so long a definition costs too much to make); the record that a notice reply's header reads is the cleared one. -/
theorem statusAndNoticeReadClear : Obligations.StatusAndNoticeReadClear := by
  refine ⟨?_, ?_⟩
  · intro p s hr flag frame x o c g
    have hframe {α : Type} (n : α → Nat) (y : Option α) :
        optField (fun a => [Field.long (n a)]) y = frame (y.map n) := by cases y <;> rfl
    have hready := s.field.countSlots_eq fun y => y.state = .ready
    refine unlessFrozen_answered hr (Prod.ext rfl (congrArg (Answer.mk .done) ?_))
    delta statusFields
    cases s.cause <;> simp [causeCode, cardCode_eq, lateCount_eq_count, hframe, hready, field_forms,
      State.safeHolds, flag, x, o, c, g]
  · intro p s hr x
    let u := s.modifyPort p fun y => { y with record := NoticeRecord.empty }
    have hrecord : (u.ports.get p).record = NoticeRecord.empty := by simp [u]
    have hlast (o : OutcomeCode) (l : List Field) :
        ((u.answered p o l).ports.get p).lastReply
          = some { outcome := o, header := statusHeader u p, fields := l } := by
      simp [State.answered, respond, replyOf]
    refine ⟨_, unlessFrozen_answered hr rfl, congrArg (u.answered p .done) ?_, State.attention_empty ?_, _, hlast _ _,
      statusHeader_cleared hrecord⟩
    · simp [noticeFields, maskFields, listField, flatMap_one, field_forms, x]
    · simp [State.answered, respond]

end Sys2Proof.Machine
end

section
/-! PROOFS. Masks and records (O13): what a NOTICE_MASK carries, and what raising and withdrawing do at each port. -/

namespace Sys2Proof.Machine

/-! ### The settings that a NOTICE_MASK carries (R179) -/

/-- A code names the setting whose code it is. -/
theorem settingOfCode_eq_some_iff {c : Nat} {x : Setting} : settingOfCode c = some x ↔ settingCode x = c := by
  match c with
  | 0 | 1 | 2 | n + 3 => cases x <;> simp [settingOfCode, settingCode]

theorem isSome_settingOfCode_iff {c : Nat} : (settingOfCode c).isSome ↔ c ≤ 2 := by
  match c with
  | 0 | 1 | 2 | n + 3 => simp [settingOfCode]

theorem mem_allGroups (g : Group) : g ∈ allGroups := by cases g <;> decide

section Masks

variable (f : MaskFields)

theorem maskSetting_eq_some_iff {g : Group} {x : Setting} :
    maskSetting f g = some x ↔ maskCode f g = some (settingCode x) := by
  simp only [maskSetting, Option.bind_eq_some_iff, settingOfCode_eq_some_iff, exists_eq_right']

theorem maskFit_iff : maskFit f = true ↔ ∀ g c, maskCode f g = some c → c ≤ 2 := by
  simp only [maskFit, List.all_eq_true, mem_allGroups, forall_const, Option.all_eq_true, isSome_settingOfCode_iff]

/-! ### The mask and the record that a NOTICE_MASK leaves -/

/-- A mask after a NOTICE_MASK: the settings carried, and for the other groups those that stood. -/
def NoticeMask.setBy (m : NoticeMask) : NoticeMask := .ofFn fun g => (maskSetting f g).getD (m.get g)

/-- A record after a NOTICE_MASK: without the flags of the groups set OFF. -/
def NoticeRecord.clearedBy (r : NoticeRecord) : NoticeRecord :=
  r.clearGroups fun g => decide (maskSetting f g = some .off)

variable {f} {g : Group}

theorem NoticeMask.get_setBy_absent (m : NoticeMask) (h : maskCode f g = none) : (m.setBy f).get g = m.get g := by
  simp [setBy, maskSetting, h]

theorem NoticeMask.get_setBy_carried (m : NoticeMask) {c : Nat} (h : maskCode f g = some c) (hc : c ≤ 2) :
    settingCode ((m.setBy f).get g) = c := by
  obtain ⟨x, hx⟩ := Option.isSome_iff_exists.1 (isSome_settingOfCode_iff.2 hc)
  have hcode : settingCode x = c := settingOfCode_eq_some_iff.1 hx
  have hset : maskSetting f g = some x := (maskSetting_eq_some_iff f).2 (hcode ▸ h)
  rw [setBy, NoticeMask.get_ofFn, hset, Option.getD_some, hcode]

theorem NoticeRecord.get_clearedBy (r : NoticeRecord) (e : Notice) :
    (r.clearedBy f).get e = (r.get e && decide (maskCode f (noticeGroup e) ≠ some 0)) := by
  have hoff : maskSetting f (noticeGroup e) = some .off ↔ maskCode f (noticeGroup e) = some 0 :=
    maskSetting_eq_some_iff f
  rw [clearedBy, NoticeRecord.get_clearGroups, Bool.and_comm]
  simp only [hoff, ne_eq, decide_not]

variable {p : Port} {s : State}

theorem noticeMask_badLength (h : ∃ g c, maskCode f g = some c ∧ 2 < c) :
    noticeMask p f s = (s, refuse .badLength) := by
  obtain ⟨g, c, hg, hc⟩ := h
  have hfit : ¬ maskFit f = true := fun hfit => absurd ((maskFit_iff f).1 hfit g c hg) (by omega)
  simp [noticeMask, hfit]

theorem noticeMask_taken (h : ∀ g c, maskCode f g = some c → c ≤ 2) :
    noticeMask p f s =
      (s.modifyPort p fun y =>
          { y with mask := (s.ports.get p).mask.setBy f, record := (s.ports.get p).record.clearedBy f },
        { outcome := .done, fields := maskFields ((s.ports.get p).mask.setBy f) }) := by
  rw [noticeMask, (maskFit_iff f).2 h]
  rfl

end Masks

/-! ### A port after an event raised, and after GALE_AREA withdrawn (R176, R180) -/

theorem State.get_raise (s : State) (e : Notice) (p : Port) :
    (s.raise e).ports.get p
      = { s.ports.get p with record := (s.ports.get p).record.raise (s.ports.get p).mask e } :=
  Ports.get_map _ _ p

theorem State.get_withdrawGale (s : State) (p : Port) :
    s.withdrawGale.ports.get p = { s.ports.get p with record := (s.ports.get p).record.withdraw .galeArea } :=
  Ports.get_map _ _ p

/-- Settles O13: a NOTICE_MASK by whether its codes are settings, the port after raising and after withdrawing, and the
attention line by the flags of the record. -/
theorem noticesFollowMasks : Obligations.NoticesFollowMasks := by
  refine ⟨fun p f s hr => ⟨fun hbad => ?_, fun hfit => ?_⟩, fun s e => ⟨⟨rfl, rfl⟩, fun p => ?_⟩,
    fun p s hr => s.attention_iff p hr⟩
  · exact unlessFrozen_answered hr (noticeMask_badLength hbad)
  · refine ⟨(s.ports.get p).mask.setBy f, (s.ports.get p).record.clearedBy f,
      unlessFrozen_answered hr ((noticeMask_taken hfit).trans ?_),
      fun _ h => NoticeMask.get_setBy_absent _ h, fun g c h => NoticeMask.get_setBy_carried _ h (hfit g c h),
      NoticeRecord.get_clearedBy _⟩
    simp only [maskFields, field_forms, flatMap_one]
  · rw [s.get_raise, s.get_withdrawGale]
    refine ⟨rfl, rfl, fun x => ⟨NoticeRecord.get_raise _ e x _, ?_⟩⟩
    rw [NoticeRecord.get_withdraw, Bool.and_comm, decide_not]

end Sys2Proof.Machine
end

section
/-! PROOFS. Operating modes and reset: the asserted RESET line (O4), the restart of power-on and of the line's release
as an exact next state (O6), and the invariants that a restart establishes (O14). -/

namespace Sys2Proof.Machine

/-! ### The RESET line asserted (R185) -/

/-- Every command but POWER_ON, the release of the RESET line and a change of the SAFE line has its effect only while
the RESET line is released (R185). -/
theorem exec_eq_unlessFrozen {c : Instr} (h : c.actsWhileReset = false) (s : State) :
    ∃ t, exec c s = unlessFrozen s t := by
  cases hr : c.request? with
  | some r =>
    obtain ⟨p, n, hp⟩ := exec_request s hr
    exact ⟨_, hp⟩
  | none =>
    cases c with
    | powerOn | resetLineRelease | safeLineChange => cases h
    | resetLineAssertion | linkFrameReceived | framingError | frameGapTimeout | replySent | startOctet
    | drainCompletion | windowEnd | staleTimerExpiry | windowCutCompletion | compositionCompletion | frefPulse
    | internalFrameStart | acquiringSilenceExpiry | refLost | holdoverEnd | lateFrames | detailRecovered =>
      exact ⟨_, rfl⟩
    | _ => cases hr

section Asserted

variable {s : State}

theorem exec_safeLineChange_asserted (hr : s.resetLine = true) (b : Bool) :
    exec (.safeLineChange b) s = .next { s with safeLine := b } :=
  congrArg Host.Outcome.next (if_pos hr)

theorem State.attention_asserted (hr : s.resetLine = true) (p : Port) : s.attention p = false := by
  rw [State.attention, hr]
  rfl

theorem State.tick_asserted (hr : s.resetLine = true) : s.tick = s := if_pos hr

end Asserted

/-- Settles O4: the assertion itself, and then what is left of each command, of a SAFE line change, of the attention
lines and of the seconds timebase. -/
theorem resetLineFreezes : Obligations.ResetLineFreezes := by
  refine fun s => ⟨unlessFrozen_eq s, fun hr =>
    ⟨fun c hc => ?_, exec_safeLineChange_asserted hr, State.attention_asserted hr, fun hp => ?_⟩⟩
  · obtain ⟨t, ht⟩ := exec_eq_unlessFrozen hc s
    rw [ht, unlessFrozen_frozen s hr]
  · rw [step_nil s hp, State.tick_asserted hr]

/-! ### The restart (R186) -/

section Restart

variable {s : State}

theorem exec_powerOn_released (hr : s.resetLine = false) (t : Nat) :
    exec (.powerOn t) s = .next ((s.at t).restart .powerOn) :=
  congrArg Host.Outcome.next (if_neg (by simp [hr]))

theorem exec_powerOn_asserted (hr : s.resetLine = true) (t : Nat) :
    exec (.powerOn t) s = .next { s with now := max s.now t, powerOnHeld := true } :=
  congrArg Host.Outcome.next (if_pos hr)

theorem exec_resetLineRelease_released (hr : s.resetLine = false) (t : Nat) :
    exec (.resetLineRelease t) s = .next s :=
  congrArg Host.Outcome.next (if_neg (by simp [hr]))

theorem exec_resetLineRelease_asserted (hr : s.resetLine = true) (t : Nat) :
    exec (.resetLineRelease t) s
      = .next ((s.at t).restart (if s.powerOnHeld then .powerOn else .resetLine)) :=
  congrArg Host.Outcome.next (if_pos hr)

end Restart

/-- The state after power-on is a restart of itself: time 0, both lines released, no command waiting (log entry 10). -/
theorem State.reset_eq_restart : State.reset = State.reset.restart .powerOn := rfl

theorem ShowController.page_initial (i : PageId) : ShowController.initial.page i = none := by
  simp [ShowController.page, ShowController.initial]

/-- No page is defined, no cue waits, and no context exists. -/
theorem ShowController.initial_sound (g : Option Grid) (c : CoastStore) : ShowController.initial.Sound g c where
  pages i p hp := by simp [ShowController.page_initial] at hp
  cues := by simp [ShowController.initial]
  next := by simp [ShowController.initial]
  live := by simp [ShowController.initial]
  stacked := by simp [ShowController.initial]

theorem Evaluator.alerts_initial (i : Fin 31) : Evaluator.initial.alerts[i] = .quiet := by
  simp [Evaluator.initial]

/-- Settles O6: the two events by the level of the RESET line, and the initial values block by block, of which the
slots, the pages and the alert states are tables read entry by entry. -/
theorem restartPutsInitialValues : Obligations.RestartPutsInitialValues := by
  refine ⟨fun t s => ?_, ?_⟩
  · exact ⟨fun hr => ⟨exec_powerOn_released hr t, exec_resetLineRelease_released hr t⟩,
      fun hr => ⟨exec_powerOn_asserted hr t, exec_resetLineRelease_asserted hr t⟩⟩
  · have flags : ∀ e ∈ allNotices, PortState.initial.record.get e = false := fun e _ => NoticeRecord.get_empty e
    have settings : ∀ g ∈ allGroups, PortState.initial.mask.get g = .off := by decide
    exact
      ⟨⟨rfl, rfl, rfl, rfl, rfl, rfl, rfl, rfl, rfl, flags, settings⟩,
        ⟨rfl, rfl, FieldStore.slot_initial⟩,
        ⟨rfl, rfl, rfl, rfl⟩,
        ⟨rfl, rfl, rfl, rfl, rfl, rfl, rfl, rfl, rfl, rfl, rfl, rfl⟩,
        ⟨rfl, rfl, rfl, rfl, rfl⟩,
        ⟨ShowController.page_initial, rfl, rfl, rfl, rfl, rfl⟩,
        ⟨rfl, rfl, rfl, rfl, rfl, rfl, rfl, rfl, rfl, rfl, rfl, rfl⟩,
        ⟨rfl, rfl, Evaluator.alerts_initial, rfl, rfl, rfl, rfl, rfl, rfl⟩,
        ⟨rfl, rfl, rfl, rfl, rfl, rfl, rfl, rfl, rfl⟩,
        ⟨rfl, rfl, rfl, rfl, rfl, rfl, rfl, rfl⟩⟩

/-! ### What a restart establishes, whatever the state before it (R186) -/

section Established

variable (s : State) (c : ResetCause)

theorem State.restart_fieldSound : (s.restart c).FieldSound :=
  (State.fieldSound_iff_view _).2 FieldView.Sound.initial

theorem State.restart_cellsSound : (s.restart c).CellsSound :=
  (State.cellsSound_iff _).2 fun i => (FieldStore.slot_initial i).symm ▸ Slot.ContentsSound.initial

theorem State.restart_feedSound : (s.restart c).FeedSound := (State.feedSound_iff _).2 FeedMonitor.initial_sound

theorem State.restart_coastSound : (s.restart c).CoastSound := (State.coastSound_iff _).2 (CoastStore.sound_nil .empty)

theorem State.restart_bandsSound : (s.restart c).BandsSound :=
  ⟨BandSettings.initial_sound, fun x h => absurd h (Composer.initial_composition x)⟩

theorem State.restart_showSound : (s.restart c).ShowSound :=
  (State.showSound_iff _).2 ⟨ShowController.initial_sound none CoastStore.initial, fun _ => rfl⟩

theorem State.restart_stackSound : (s.restart c).StackSound :=
  (State.stackSound_iff _).2 (ShowController.stackSound_nil rfl)

/-- The ports after a restart are one initial port thrice. -/
theorem Ports.get_initial (p : Port) : Ports.initial.get p = PortState.initial := by cases p <;> rfl

theorem State.restart_bounded : (s.restart c).Bounded := by
  refine (State.bounded_iff _).2
    ⟨Nat.zero_le _, ⟨Nat.zero_le _, Nat.zero_le _⟩, fun p => ?_, Governor.initial_bounded⟩
  exact (Ports.get_initial p).symm ▸ Nat.zero_le _

theorem State.restart_composerSound : (s.restart c).ComposerSound where
  idle _ := rfl
  mailbox x hx := absurd hx (Option.some_ne_none x).symm
  composition x hx := absurd hx (Option.some_ne_none x).symm
  counts := ⟨Nat.zero_le _, Nat.zero_le _, Nat.zero_le _⟩

/-- The fill is the STILL card exactly where the SAFE line makes safe hold. -/
theorem State.restart_outputSound : (s.restart c).OutputSound := by
  refine (State.outputSound_iff rfl).2 ⟨nofun, fun _ => rfl, nofun, fun hsafe => ?_, fun _ => rfl⟩
  have hline : s.safeLine = true := (Bool.or_false _).symm.trans hsafe
  change (OutputStage.initial s.safeLine).fill.isSafeCard = true
  rw [hline]
  rfl

theorem State.restart_noticesSound : (s.restart c).NoticesSound := fun p =>
  (Ports.get_initial p).symm ▸ PortState.cleared_noticesSound PortState.initial

end Established

/-- Settles O14: State.reset is a restart, and a restart establishes every invariant from any state. -/
theorem resetIsSound : Obligations.ResetIsSound := by
  unfold Obligations.ResetIsSound
  rw [State.reset_eq_restart]
  exact
    ⟨⟨State.restart_fieldSound _ _, State.restart_cellsSound _ _, State.restart_ingestSound _ _,
        State.restart_feedSound _ _, State.restart_coastSound _ _, State.restart_tablesSound _ _⟩,
      ⟨State.restart_bandsSound _ _, State.restart_showSound _ _, State.restart_stackSound _ _,
        State.restart_bounded _ _⟩,
      ⟨State.restart_timingSound _ _, State.restart_composerSound _ _, State.restart_outputSound _ _,
        State.restart_noticesSound _ _⟩⟩

end Sys2Proof.Machine
end

section
/-! PROOFS. The queue of commands and the clock: a step takes the command at the front (O1), and every command answers
a next state, with the queue behind it kept and the clock not run back (O2). -/

namespace Sys2Proof.Machine

/-- Settles O1. -/
theorem stepTakesFrontCommand : Obligations.StepTakesFrontCommand := fun s _ _ h => step_cons s h

variable (s : State)

/-! ### No command ends the machine (log entry 40) -/

/-- The commands that act while the RESET line is asserted answer a next state of their own; every other one answers
the state itself or its effect (R185). -/
theorem exec_answers_next (c : Instr) : ∃ t, exec c s = .next t := by
  cases hc : c.actsWhileReset with
  | false =>
    obtain ⟨t, ht⟩ := exec_eq_unlessFrozen hc s
    exact ⟨_, ht⟩
  | true =>
    cases c with
    | powerOn | resetLineRelease | safeLineChange => exact ⟨_, rfl⟩
    | _ => cases hc

/-! ### The queue (log entry 36) -/

/-- The commands outside `actsByItself` restart the generator or serve a frame, and leave the queue as it is too. -/
theorem exec_pending {c : Instr} {t : State} (h : exec c s = .next t) : t.pending = s.pending := by
  cases hc : actsByItself c with
  | true => exact (exec_sameOrigin s hc h).2
  | false =>
    cases c with
    | powerOn | resetLineRelease =>
      cases h
      split
      · rfl
      · rfl
    | linkFrameReceived | replySent =>
      rcases unlessFrozen_next h with rfl | rfl
      · rfl
      · simp
    | _ => cases hc

/-! ### The clock (log entry 6) -/

theorem unlessFrozen_now_le {s t u : State} (h : s.now ≤ t.now) (hu : unlessFrozen s t = .next u) : s.now ≤ u.now := by
  rcases unlessFrozen_next hu with rfl | rfl
  · exact le_rfl
  · exact h

@[simp] theorem State.internalFrameStart_now (d : Nat) : (s.internalFrameStart d).now = max s.now d := by
  unfold State.internalFrameStart
  dsimp only
  split
  · split
    · simp
    · simp
  · simp

theorem State.nextFrameStart_now_le (n : Nat) : s.now ≤ ((s.nextFrameStart n).getD s).now := by
  unfold State.nextFrameStart
  split
  · split
    · split
      · exact le_rfl
      · simp
    · exact le_rfl
  · cases s.timing.nextDue with
    | none => exact le_rfl
    | some d => simp

theorem exec_now_le {c : Instr} {t : State} (h : exec c s = .next t) : s.now ≤ t.now := by
  cases hr : c.request? with
  | some r =>
    obtain ⟨p, n, hp⟩ := exec_request s hr
    rw [hp] at h
    exact unlessFrozen_now_le (by simp) h
  | none =>
    cases c with
    | powerOn n =>
      cases h
      split
      · exact le_max_left _ _
      · exact le_max_left _ _
    | resetLineRelease n =>
      cases h
      split
      · exact le_max_left _ _
      · exact le_rfl
    | safeLineChange b =>
      cases h
      split
      · exact le_rfl
      · simp
    | resetLineAssertion | linkFrameReceived | frameGapTimeout | replySent | startOctet | windowCutCompletion =>
      exact unlessFrozen_now_le (by simp) h
    | framingError | drainCompletion | windowEnd | staleTimerExpiry | compositionCompletion | frefPulse
    | internalFrameStart | acquiringSilenceExpiry | refLost =>
      refine unlessFrozen_now_le ?_ h
      split
      · simp
      · simp
    | holdoverEnd =>
      refine unlessFrozen_now_le ?_ h
      split
      · split
        · simp
        · exact le_rfl
      · exact le_rfl
    | lateFrames n | detailRecovered n =>
      refine unlessFrozen_now_le ?_ h
      split
      · exact s.nextFrameStart_now_le n
      · exact le_rfl
    | _ => cases hr

/-- Settles O2: the next state that a command answers, and what it keeps of the state before. -/
theorem everyCommandAnswersNext : Obligations.EveryCommandAnswersNext := by
  intro c s
  obtain ⟨t, h⟩ := exec_answers_next s c
  exact ⟨t, h, exec_pending s h, exec_now_le s h⟩

end Sys2Proof.Machine
end
